-- ==== Sys2Proof/Word.lean ====
section
/-!
DEFINITION. The two word types of the core (00 R8, R9): a byte (data width, 8 bits) and a word
(address width, 16 bits).
-/

namespace Sys2Proof

/-- A byte: width of A, X, Y, S, P and of every bus datum (00 R8). -/
abbrev Byte := BitVec 8

/-- A word: width of PC and of every bus address (00 R8). -/
abbrev Word := BitVec 16

end Sys2Proof
end

