-- ==== Sys2Proof/Config.lean ====
section
/-!
DEFINITION. What an implementation fixes (the parameters of 00 R8 that the engine reads) and the free
values, which nothing in Lean can evaluate.
-/

namespace Sys2Proof

/-- SCHED_PHASE (00 R8, 40 R131): whether the scheduler pass runs before or after the CPU step of a
tick. -/
inductive SchedPhase
  | beforeCpu
  | afterCpu
  deriving DecidableEq, Repr

/-- The parameters of 00 R8 that the engine reads, as plain data. State holds one value of it (`cfg`)
and no step writes it, so a statement about every state is a statement about every configuration.
The defaults are those of 00 R8 and, for the reset values, of 10 R53 (DESIGN CHOICE, log 2). -/
structure Config where
  /-- `Q`, the micro-op queue capacity; well formed when at least 16. -/
  q : Nat := 16
  /-- `DEBUG_EXT`: whether HALT, TEST and TRAP are registered. -/
  debugExt : Bool := true
  /-- `OPC_HALT`. -/
  opcHalt : Byte := 0x02#8
  /-- `OPC_TEST`. -/
  opcTest : Byte := 0x12#8
  /-- `OPC_TRAP`. -/
  opcTrap : Byte := 0x22#8
  /-- `reset_A`, OPEN. -/
  resetA : Byte := 0x00#8
  /-- `reset_X`, OPEN. -/
  resetX : Byte := 0x00#8
  /-- `reset_Y`, OPEN. -/
  resetY : Byte := 0x00#8
  /-- `reset_S`, OPEN. -/
  resetS : Byte := 0xFD#8
  /-- `reset_P`, OPEN but for P.I, which the reset sequence forces to 1. -/
  resetP : Byte := 0x24#8
  /-- `SCHED_PHASE`, OPEN. -/
  phase : SchedPhase := .beforeCpu
  /-- The complement of `mapped`: inclusive address ranges the bus does not map (log 6). -/
  unmapped : List (Nat × Nat) := []
  deriving DecidableEq, Repr

/-- FREE VALUE (20 R71, log 8): the byte the external bus answers to the n-th read that falls into a
device's window. Nothing constrains it. -/
opaque Config.busAnswer : Nat → Byte

/-- FREE VALUE (60 R374, log 15): the numerator part of the pacing clock's multiplicative nudge factor,
as a function of the delay, the achieved rate and the target rate. -/
opaque Config.nudgeNum : ℝ → ℝ → ℝ → ℝ

/-- FREE VALUE (60 R374, log 15): the denominator part of the nudge factor. -/
opaque Config.nudgeDen : ℝ → ℝ → ℝ → ℝ

/-- FREE VALUE (60 R374, log 15): the achieved rate computed when no wall time has passed since the resync,
which the spec does not state. -/
opaque Config.rateAtNoTime : Nat → ℝ

end Sys2Proof
end

