-- ==== Sys2Proof/Syntax.lean ====
section
/-!
DEFINITION. The instruction set: one constructor per row of spec/opcode_table.json, that is, per
registered (mnemonic, addressing mode) pair. A constructor is the InstructionKey that the registry's
`decode` answers from the opcode byte alone (30 R105); the operand bytes are no part of the key: the
instruction's own cycles read them from the bus (40 R133, R140; log 3).
-/

namespace Sys2Proof

/-- The 151 documented instructions (30 R103, R104) and the three debug extensions (47 R310 to R312).
The suffix is the mode code of 30 R101; a mnemonic with one mode has no suffix. -/
inductive Instr
  -- 41_load_store_transfer.md
  | ldaImm | ldaZp | ldaZpx | ldaAbs | ldaAbx | ldaAby | ldaIzx | ldaIzy
  | ldxImm | ldxZp | ldxZpy | ldxAbs | ldxAby
  | ldyImm | ldyZp | ldyZpx | ldyAbs | ldyAbx
  | staZp | staZpx | staAbs | staAbx | staAby | staIzx | staIzy
  | stxZp | stxZpy | stxAbs
  | styZp | styZpx | styAbs
  | tax
  | tay
  | txa
  | tya
  | tsx
  | txs
  -- 42_arith_logic.md
  | adcImm | adcZp | adcZpx | adcAbs | adcAbx | adcAby | adcIzx | adcIzy
  | sbcImm | sbcZp | sbcZpx | sbcAbs | sbcAbx | sbcAby | sbcIzx | sbcIzy
  | andImm | andZp | andZpx | andAbs | andAbx | andAby | andIzx | andIzy
  | oraImm | oraZp | oraZpx | oraAbs | oraAbx | oraAby | oraIzx | oraIzy
  | eorImm | eorZp | eorZpx | eorAbs | eorAbx | eorAby | eorIzx | eorIzy
  | cmpImm | cmpZp | cmpZpx | cmpAbs | cmpAbx | cmpAby | cmpIzx | cmpIzy
  | cpxImm | cpxZp | cpxAbs
  | cpyImm | cpyZp | cpyAbs
  | bitZp | bitAbs
  -- 43_rmw_incdec.md
  | aslZp | aslZpx | aslAbs | aslAbx | aslAcc
  | lsrZp | lsrZpx | lsrAbs | lsrAbx | lsrAcc
  | rolZp | rolZpx | rolAbs | rolAbx | rolAcc
  | rorZp | rorZpx | rorAbs | rorAbx | rorAcc
  | incZp | incZpx | incAbs | incAbx
  | decZp | decZpx | decAbs | decAbx
  | inx
  | iny
  | dex
  | dey
  -- 44_stack.md
  | pha
  | php
  | pla
  | plp
  -- 45_control_flow.md
  | jmpAbs | jmpInd
  | jsr
  | rts
  | rti
  | brk
  | bcc
  | bcs
  | beq
  | bmi
  | bne
  | bpl
  | bvc
  | bvs
  -- 46_flags_nop.md
  | clc
  | sec
  | cli
  | sei
  | cld
  | sed
  | clv
  | nop
  -- 47_debug_ext.md
  | halt
  | test
  | trap
  deriving DecidableEq, Repr

end Sys2Proof
end

