-- ==== Sys2Proof/Decode.lean ====
section
/-!
DEFINITION. The opcode registry: addressing modes and their operand bytes (30 R100, R101), the opcode map
(30 R103), `decode` (30 R105, R106), `encode` with its validation (30 R110, R111) and the assembling of a
whole instruction from bytes. Decoding is total and rejects by name.
-/

namespace Sys2Proof

/-- The 13 addressing modes of 30 R101 and the operand form IMM2 of the debug extensions. -/
inductive Mode
  /-- IMP -/
  | implied
  /-- ACC -/
  | accumulator
  /-- IMM -/
  | immediate
  /-- ZP -/
  | zeroPage
  /-- ZPX -/
  | zeroPageX
  /-- ZPY -/
  | zeroPageY
  /-- ABS -/
  | absolute
  /-- ABX -/
  | absoluteX
  /-- ABY -/
  | absoluteY
  /-- IND -/
  | indirect
  /-- IZX -/
  | indirectX
  /-- IZY -/
  | indirectY
  /-- REL -/
  | relative
  /-- IMM2 -/
  | immediate2
  deriving DecidableEq, Repr

/-- How many operand bytes a mode has (30 R100, R101). -/
def Mode.operandBytes : Mode → Nat
  | .implied | .accumulator => 0
  | .immediate | .zeroPage | .zeroPageX | .zeroPageY | .indirectX | .indirectY | .relative => 1
  | .absolute | .absoluteX | .absoluteY | .indirect | .immediate2 => 2

/-- The instructions by mnemonic: the 56 of 30 R104 and the three debug extensions (47_debug_ext.md). An InstructionKey
is a pair of one of these and a mode (00 section 7). -/
inductive Mnemonic
  | lda | ldx | ldy | sta | stx | sty | tax | tay | txa | tya | tsx | txs | adc | sbc | and | ora
  | eor | cmp | cpx | cpy | bit | asl | lsr | rol | ror | inc | dec | inx | iny | dex | dey | pha
  | php | pla | plp | jmp | jsr | rts | rti | brk | bcc | bcs | beq | bmi | bne | bpl | bvc | bvs
  | clc | sec | cli | sei | cld | sed | clv | nop | halt | test | trap
  deriving DecidableEq, Repr

/-- The mnemonic as it is written. -/
def Mnemonic.text : Mnemonic → String
  | .lda => "LDA"
  | .ldx => "LDX"
  | .ldy => "LDY"
  | .sta => "STA"
  | .stx => "STX"
  | .sty => "STY"
  | .tax => "TAX"
  | .tay => "TAY"
  | .txa => "TXA"
  | .tya => "TYA"
  | .tsx => "TSX"
  | .txs => "TXS"
  | .adc => "ADC"
  | .sbc => "SBC"
  | .and => "AND"
  | .ora => "ORA"
  | .eor => "EOR"
  | .cmp => "CMP"
  | .cpx => "CPX"
  | .cpy => "CPY"
  | .bit => "BIT"
  | .asl => "ASL"
  | .lsr => "LSR"
  | .rol => "ROL"
  | .ror => "ROR"
  | .inc => "INC"
  | .dec => "DEC"
  | .inx => "INX"
  | .iny => "INY"
  | .dex => "DEX"
  | .dey => "DEY"
  | .pha => "PHA"
  | .php => "PHP"
  | .pla => "PLA"
  | .plp => "PLP"
  | .jmp => "JMP"
  | .jsr => "JSR"
  | .rts => "RTS"
  | .rti => "RTI"
  | .brk => "BRK"
  | .bcc => "BCC"
  | .bcs => "BCS"
  | .beq => "BEQ"
  | .bmi => "BMI"
  | .bne => "BNE"
  | .bpl => "BPL"
  | .bvc => "BVC"
  | .bvs => "BVS"
  | .clc => "CLC"
  | .sec => "SEC"
  | .cli => "CLI"
  | .sei => "SEI"
  | .cld => "CLD"
  | .sed => "SED"
  | .clv => "CLV"
  | .nop => "NOP"
  | .halt => "HALT"
  | .test => "TEST"
  | .trap => "TRAP"

/-- The addressing mode of an instruction (30 R104). -/
def Instr.mode : Instr → Mode
  | .tax | .tay | .txa | .tya | .tsx | .txs | .inx | .iny
  | .dex | .dey | .pha | .php | .pla | .plp | .rts | .rti
  | .brk | .clc | .sec | .cli | .sei | .cld | .sed | .clv
  | .nop | .halt => .implied
  | .aslAcc | .lsrAcc | .rolAcc | .rorAcc => .accumulator
  | .ldaImm | .ldxImm | .ldyImm | .adcImm | .sbcImm | .andImm | .oraImm | .eorImm
  | .cmpImm | .cpxImm | .cpyImm => .immediate
  | .ldaZp | .ldxZp | .ldyZp | .staZp | .stxZp | .styZp | .adcZp | .sbcZp
  | .andZp | .oraZp | .eorZp | .cmpZp | .cpxZp | .cpyZp | .bitZp | .aslZp
  | .lsrZp | .rolZp | .rorZp | .incZp | .decZp => .zeroPage
  | .ldaZpx | .ldyZpx | .staZpx | .styZpx | .adcZpx | .sbcZpx | .andZpx | .oraZpx
  | .eorZpx | .cmpZpx | .aslZpx | .lsrZpx | .rolZpx | .rorZpx | .incZpx | .decZpx => .zeroPageX
  | .ldxZpy | .stxZpy => .zeroPageY
  | .ldaAbs | .ldxAbs | .ldyAbs | .staAbs | .stxAbs | .styAbs | .adcAbs | .sbcAbs
  | .andAbs | .oraAbs | .eorAbs | .cmpAbs | .cpxAbs | .cpyAbs | .bitAbs | .aslAbs
  | .lsrAbs | .rolAbs | .rorAbs | .incAbs | .decAbs | .jmpAbs | .jsr => .absolute
  | .ldaAbx | .ldyAbx | .staAbx | .adcAbx | .sbcAbx | .andAbx | .oraAbx | .eorAbx
  | .cmpAbx | .aslAbx | .lsrAbx | .rolAbx | .rorAbx | .incAbx | .decAbx => .absoluteX
  | .ldaAby | .ldxAby | .staAby | .adcAby | .sbcAby | .andAby | .oraAby | .eorAby
  | .cmpAby => .absoluteY
  | .jmpInd => .indirect
  | .ldaIzx | .staIzx | .adcIzx | .sbcIzx | .andIzx | .oraIzx | .eorIzx | .cmpIzx => .indirectX
  | .ldaIzy | .staIzy | .adcIzy | .sbcIzy | .andIzy | .oraIzy | .eorIzy | .cmpIzy => .indirectY
  | .bcc | .bcs | .beq | .bmi | .bne | .bpl | .bvc | .bvs => .relative
  | .test | .trap => .immediate2

/-- How many operand bytes an instruction has: the mode alone determines it (30 R100). -/
def Instr.operandBytes (i : Instr) : Nat := i.mode.operandBytes

/-- Length in bytes: the opcode byte and the operand bytes (30 R100). -/
def Instr.length (i : Instr) : Nat := 1 + i.operandBytes

/-- The mnemonic of an instruction (30 R104, 47_debug_ext.md). -/
def Instr.mnemonic : Instr → Mnemonic
  | .ldaImm | .ldaZp | .ldaZpx | .ldaAbs | .ldaAbx | .ldaAby | .ldaIzx | .ldaIzy => .lda
  | .ldxImm | .ldxZp | .ldxZpy | .ldxAbs | .ldxAby => .ldx
  | .ldyImm | .ldyZp | .ldyZpx | .ldyAbs | .ldyAbx => .ldy
  | .staZp | .staZpx | .staAbs | .staAbx | .staAby | .staIzx | .staIzy => .sta
  | .stxZp | .stxZpy | .stxAbs => .stx
  | .styZp | .styZpx | .styAbs => .sty
  | .tax => .tax
  | .tay => .tay
  | .txa => .txa
  | .tya => .tya
  | .tsx => .tsx
  | .txs => .txs
  | .adcImm | .adcZp | .adcZpx | .adcAbs | .adcAbx | .adcAby | .adcIzx | .adcIzy => .adc
  | .sbcImm | .sbcZp | .sbcZpx | .sbcAbs | .sbcAbx | .sbcAby | .sbcIzx | .sbcIzy => .sbc
  | .andImm | .andZp | .andZpx | .andAbs | .andAbx | .andAby | .andIzx | .andIzy => .and
  | .oraImm | .oraZp | .oraZpx | .oraAbs | .oraAbx | .oraAby | .oraIzx | .oraIzy => .ora
  | .eorImm | .eorZp | .eorZpx | .eorAbs | .eorAbx | .eorAby | .eorIzx | .eorIzy => .eor
  | .cmpImm | .cmpZp | .cmpZpx | .cmpAbs | .cmpAbx | .cmpAby | .cmpIzx | .cmpIzy => .cmp
  | .cpxImm | .cpxZp | .cpxAbs => .cpx
  | .cpyImm | .cpyZp | .cpyAbs => .cpy
  | .bitZp | .bitAbs => .bit
  | .aslZp | .aslZpx | .aslAbs | .aslAbx | .aslAcc => .asl
  | .lsrZp | .lsrZpx | .lsrAbs | .lsrAbx | .lsrAcc => .lsr
  | .rolZp | .rolZpx | .rolAbs | .rolAbx | .rolAcc => .rol
  | .rorZp | .rorZpx | .rorAbs | .rorAbx | .rorAcc => .ror
  | .incZp | .incZpx | .incAbs | .incAbx => .inc
  | .decZp | .decZpx | .decAbs | .decAbx => .dec
  | .inx => .inx
  | .iny => .iny
  | .dex => .dex
  | .dey => .dey
  | .pha => .pha
  | .php => .php
  | .pla => .pla
  | .plp => .plp
  | .jmpAbs | .jmpInd => .jmp
  | .jsr => .jsr
  | .rts => .rts
  | .rti => .rti
  | .brk => .brk
  | .bcc => .bcc
  | .bcs => .bcs
  | .beq => .beq
  | .bmi => .bmi
  | .bne => .bne
  | .bpl => .bpl
  | .bvc => .bvc
  | .bvs => .bvs
  | .clc => .clc
  | .sec => .sec
  | .cli => .cli
  | .sei => .sei
  | .cld => .cld
  | .sed => .sed
  | .clv => .clv
  | .nop => .nop
  | .halt => .halt
  | .test => .test
  | .trap => .trap

/-! ## The opcode map, row by row (30 R103): `none` is `--` and the three debug slots -/

/-- Row 0x of 30 R103. -/
def opcodeRow0 : List (Option Instr) :=
  [some .brk, some .oraIzx, none, none, none, some .oraZp, some .aslZp, none,
   some .php, some .oraImm, some .aslAcc, none, none, some .oraAbs, some .aslAbs, none]

/-- Row 1x of 30 R103. -/
def opcodeRow1 : List (Option Instr) :=
  [some .bpl, some .oraIzy, none, none, none, some .oraZpx, some .aslZpx, none,
   some .clc, some .oraAby, none, none, none, some .oraAbx, some .aslAbx, none]

/-- Row 2x of 30 R103. -/
def opcodeRow2 : List (Option Instr) :=
  [some .jsr, some .andIzx, none, none, some .bitZp, some .andZp, some .rolZp, none,
   some .plp, some .andImm, some .rolAcc, none, some .bitAbs, some .andAbs, some .rolAbs, none]

/-- Row 3x of 30 R103. -/
def opcodeRow3 : List (Option Instr) :=
  [some .bmi, some .andIzy, none, none, none, some .andZpx, some .rolZpx, none,
   some .sec, some .andAby, none, none, none, some .andAbx, some .rolAbx, none]

/-- Row 4x of 30 R103. -/
def opcodeRow4 : List (Option Instr) :=
  [some .rti, some .eorIzx, none, none, none, some .eorZp, some .lsrZp, none,
   some .pha, some .eorImm, some .lsrAcc, none, some .jmpAbs, some .eorAbs, some .lsrAbs, none]

/-- Row 5x of 30 R103. -/
def opcodeRow5 : List (Option Instr) :=
  [some .bvc, some .eorIzy, none, none, none, some .eorZpx, some .lsrZpx, none,
   some .cli, some .eorAby, none, none, none, some .eorAbx, some .lsrAbx, none]

/-- Row 6x of 30 R103. -/
def opcodeRow6 : List (Option Instr) :=
  [some .rts, some .adcIzx, none, none, none, some .adcZp, some .rorZp, none,
   some .pla, some .adcImm, some .rorAcc, none, some .jmpInd, some .adcAbs, some .rorAbs, none]

/-- Row 7x of 30 R103. -/
def opcodeRow7 : List (Option Instr) :=
  [some .bvs, some .adcIzy, none, none, none, some .adcZpx, some .rorZpx, none,
   some .sei, some .adcAby, none, none, none, some .adcAbx, some .rorAbx, none]

/-- Row 8x of 30 R103. -/
def opcodeRow8 : List (Option Instr) :=
  [none, some .staIzx, none, none, some .styZp, some .staZp, some .stxZp, none,
   some .dey, none, some .txa, none, some .styAbs, some .staAbs, some .stxAbs, none]

/-- Row 9x of 30 R103. -/
def opcodeRow9 : List (Option Instr) :=
  [some .bcc, some .staIzy, none, none, some .styZpx, some .staZpx, some .stxZpy, none,
   some .tya, some .staAby, some .txs, none, none, some .staAbx, none, none]

/-- Row Ax of 30 R103. -/
def opcodeRowA : List (Option Instr) :=
  [some .ldyImm, some .ldaIzx, some .ldxImm, none, some .ldyZp, some .ldaZp, some .ldxZp, none,
   some .tay, some .ldaImm, some .tax, none, some .ldyAbs, some .ldaAbs, some .ldxAbs, none]

/-- Row Bx of 30 R103. -/
def opcodeRowB : List (Option Instr) :=
  [some .bcs, some .ldaIzy, none, none, some .ldyZpx, some .ldaZpx, some .ldxZpy, none,
   some .clv, some .ldaAby, some .tsx, none, some .ldyAbx, some .ldaAbx, some .ldxAby, none]

/-- Row Cx of 30 R103. -/
def opcodeRowC : List (Option Instr) :=
  [some .cpyImm, some .cmpIzx, none, none, some .cpyZp, some .cmpZp, some .decZp, none,
   some .iny, some .cmpImm, some .dex, none, some .cpyAbs, some .cmpAbs, some .decAbs, none]

/-- Row Dx of 30 R103. -/
def opcodeRowD : List (Option Instr) :=
  [some .bne, some .cmpIzy, none, none, none, some .cmpZpx, some .decZpx, none,
   some .cld, some .cmpAby, none, none, none, some .cmpAbx, some .decAbx, none]

/-- Row Ex of 30 R103. -/
def opcodeRowE : List (Option Instr) :=
  [some .cpxImm, some .sbcIzx, none, none, some .cpxZp, some .sbcZp, some .incZp, none,
   some .inx, some .sbcImm, some .nop, none, some .cpxAbs, some .sbcAbs, some .incAbs, none]

/-- Row Fx of 30 R103. -/
def opcodeRowF : List (Option Instr) :=
  [some .beq, some .sbcIzy, none, none, none, some .sbcZpx, some .incZpx, none,
   some .sed, some .sbcAby, none, none, none, some .sbcAbx, some .incAbx, none]

/-- The opcode map of 30 R103: 16 rows of 16 cells, by the opcode's high and low nibble. -/
def opcodeMap : List (List (Option Instr)) :=
  [opcodeRow0, opcodeRow1, opcodeRow2, opcodeRow3, opcodeRow4, opcodeRow5, opcodeRow6, opcodeRow7] ++
  [opcodeRow8, opcodeRow9, opcodeRowA, opcodeRowB, opcodeRowC, opcodeRowD, opcodeRowE, opcodeRowF]

/-- The documented instruction of an opcode byte, by table lookup (30 R103, R105). -/
def documented (opcode : Byte) : Option Instr :=
  ((opcodeMap.getD (opcode.toNat / 16) []).getD (opcode.toNat % 16) none)

/-- `decode` of the registry (30 R105): a documented key, a debug key when the debug extensions are
registered, or nothing (the decode error of 30 R106). -/
def decodeOpcode (cfg : Config) (opcode : Byte) : Option Instr :=
  match documented opcode with
  | some i => some i
  | none =>
    if cfg.debugExt then
      if opcode = cfg.opcHalt then some .halt
      else if opcode = cfg.opcTest then some .test
      else if opcode = cfg.opcTrap then some .trap
      else none
    else none

/-- A configuration the registry can be built from (00 R8, 30 R107, R109): the queue holds at least 16
entries and the three debug opcodes are distinct bytes among the undocumented ones, registered or not. -/
def Config.wellFormed (cfg : Config) : Bool :=
  decide (16 ≤ cfg.q) && decide (cfg.opcHalt ≠ cfg.opcTest) && decide (cfg.opcHalt ≠ cfg.opcTrap) &&
    decide (cfg.opcTest ≠ cfg.opcTrap) && (documented cfg.opcHalt).isNone &&
    (documented cfg.opcTest).isNone && (documented cfg.opcTrap).isNone

/-- The opcode byte an instruction is registered under (30 R104; the debug extensions' are the
parameters of 00 R8). -/
def Instr.opcode (cfg : Config) : Instr → Byte
  | .ldaImm => 0xA9#8
  | .ldaZp => 0xA5#8
  | .ldaZpx => 0xB5#8
  | .ldaAbs => 0xAD#8
  | .ldaAbx => 0xBD#8
  | .ldaAby => 0xB9#8
  | .ldaIzx => 0xA1#8
  | .ldaIzy => 0xB1#8
  | .ldxImm => 0xA2#8
  | .ldxZp => 0xA6#8
  | .ldxZpy => 0xB6#8
  | .ldxAbs => 0xAE#8
  | .ldxAby => 0xBE#8
  | .ldyImm => 0xA0#8
  | .ldyZp => 0xA4#8
  | .ldyZpx => 0xB4#8
  | .ldyAbs => 0xAC#8
  | .ldyAbx => 0xBC#8
  | .staZp => 0x85#8
  | .staZpx => 0x95#8
  | .staAbs => 0x8D#8
  | .staAbx => 0x9D#8
  | .staAby => 0x99#8
  | .staIzx => 0x81#8
  | .staIzy => 0x91#8
  | .stxZp => 0x86#8
  | .stxZpy => 0x96#8
  | .stxAbs => 0x8E#8
  | .styZp => 0x84#8
  | .styZpx => 0x94#8
  | .styAbs => 0x8C#8
  | .tax => 0xAA#8
  | .tay => 0xA8#8
  | .txa => 0x8A#8
  | .tya => 0x98#8
  | .tsx => 0xBA#8
  | .txs => 0x9A#8
  | .adcImm => 0x69#8
  | .adcZp => 0x65#8
  | .adcZpx => 0x75#8
  | .adcAbs => 0x6D#8
  | .adcAbx => 0x7D#8
  | .adcAby => 0x79#8
  | .adcIzx => 0x61#8
  | .adcIzy => 0x71#8
  | .sbcImm => 0xE9#8
  | .sbcZp => 0xE5#8
  | .sbcZpx => 0xF5#8
  | .sbcAbs => 0xED#8
  | .sbcAbx => 0xFD#8
  | .sbcAby => 0xF9#8
  | .sbcIzx => 0xE1#8
  | .sbcIzy => 0xF1#8
  | .andImm => 0x29#8
  | .andZp => 0x25#8
  | .andZpx => 0x35#8
  | .andAbs => 0x2D#8
  | .andAbx => 0x3D#8
  | .andAby => 0x39#8
  | .andIzx => 0x21#8
  | .andIzy => 0x31#8
  | .oraImm => 0x09#8
  | .oraZp => 0x05#8
  | .oraZpx => 0x15#8
  | .oraAbs => 0x0D#8
  | .oraAbx => 0x1D#8
  | .oraAby => 0x19#8
  | .oraIzx => 0x01#8
  | .oraIzy => 0x11#8
  | .eorImm => 0x49#8
  | .eorZp => 0x45#8
  | .eorZpx => 0x55#8
  | .eorAbs => 0x4D#8
  | .eorAbx => 0x5D#8
  | .eorAby => 0x59#8
  | .eorIzx => 0x41#8
  | .eorIzy => 0x51#8
  | .cmpImm => 0xC9#8
  | .cmpZp => 0xC5#8
  | .cmpZpx => 0xD5#8
  | .cmpAbs => 0xCD#8
  | .cmpAbx => 0xDD#8
  | .cmpAby => 0xD9#8
  | .cmpIzx => 0xC1#8
  | .cmpIzy => 0xD1#8
  | .cpxImm => 0xE0#8
  | .cpxZp => 0xE4#8
  | .cpxAbs => 0xEC#8
  | .cpyImm => 0xC0#8
  | .cpyZp => 0xC4#8
  | .cpyAbs => 0xCC#8
  | .bitZp => 0x24#8
  | .bitAbs => 0x2C#8
  | .aslZp => 0x06#8
  | .aslZpx => 0x16#8
  | .aslAbs => 0x0E#8
  | .aslAbx => 0x1E#8
  | .aslAcc => 0x0A#8
  | .lsrZp => 0x46#8
  | .lsrZpx => 0x56#8
  | .lsrAbs => 0x4E#8
  | .lsrAbx => 0x5E#8
  | .lsrAcc => 0x4A#8
  | .rolZp => 0x26#8
  | .rolZpx => 0x36#8
  | .rolAbs => 0x2E#8
  | .rolAbx => 0x3E#8
  | .rolAcc => 0x2A#8
  | .rorZp => 0x66#8
  | .rorZpx => 0x76#8
  | .rorAbs => 0x6E#8
  | .rorAbx => 0x7E#8
  | .rorAcc => 0x6A#8
  | .incZp => 0xE6#8
  | .incZpx => 0xF6#8
  | .incAbs => 0xEE#8
  | .incAbx => 0xFE#8
  | .decZp => 0xC6#8
  | .decZpx => 0xD6#8
  | .decAbs => 0xCE#8
  | .decAbx => 0xDE#8
  | .inx => 0xE8#8
  | .iny => 0xC8#8
  | .dex => 0xCA#8
  | .dey => 0x88#8
  | .pha => 0x48#8
  | .php => 0x08#8
  | .pla => 0x68#8
  | .plp => 0x28#8
  | .jmpAbs => 0x4C#8
  | .jmpInd => 0x6C#8
  | .jsr => 0x20#8
  | .rts => 0x60#8
  | .rti => 0x40#8
  | .brk => 0x00#8
  | .bcc => 0x90#8
  | .bcs => 0xB0#8
  | .beq => 0xF0#8
  | .bmi => 0x30#8
  | .bne => 0xD0#8
  | .bpl => 0x10#8
  | .bvc => 0x50#8
  | .bvs => 0x70#8
  | .clc => 0x18#8
  | .sec => 0x38#8
  | .cli => 0x58#8
  | .sei => 0x78#8
  | .cld => 0xD8#8
  | .sed => 0xF8#8
  | .clv => 0xB8#8
  | .nop => 0xEA#8
  | .halt => cfg.opcHalt
  | .test => cfg.opcTest
  | .trap => cfg.opcTrap

/-- Whether the instruction is one of the debug extensions (47 R314). -/
def Instr.isDebug : Instr → Bool
  | .halt | .test | .trap => true
  | _ => false

/-- The registered keys: the documented ones in the order of their opcodes, and the debug extensions where `DEBUG_EXT`
is true (30 R104, R107, R109). -/
def registeredInstrs (cfg : Config) : List Instr :=
  opcodeMap.flatten.filterMap id ++ if cfg.debugExt then [.halt, .test, .trap] else []

/-- The registered key of an (instruction, mode) pair; `none` where the pair is unregistered (30 R109, R110). -/
def keyOf (cfg : Config) (m : Mnemonic) (mode : Mode) : Option Instr :=
  (registeredInstrs cfg).find? fun i => decide (i.mnemonic = m) && decide (i.mode = mode)

/-- The little-endian bytes of an operand: `n` of them, low byte first (20 R74, 30 R110). -/
def operandToBytes : Nat → Nat → List Byte
  | 0, _ => []
  | n + 1, v => BitVec.ofNat 8 v :: operandToBytes n (v / 256)

/-- The operand that little-endian bytes spell (30 R102). -/
def operandOfBytes : List Byte → Nat
  | [] => 0
  | b :: bs => b.toNat + 256 * operandOfBytes bs

/-- Why `encode` fails (30 R110, R111): a validation error of tooling, never of the machine. -/
inductive EncodeError
  /-- The (instruction, mode) pair is not registered: an empty cell of 30 R104, or a debug extension with `DEBUG_EXT`
  false. -/
  | unregistered
  /-- The operand exceeds the mode's byte width. -/
  | operandOutOfRange
  deriving DecidableEq, Repr

/-- `encode(instruction, mode, operand)` (30 R110): the opcode byte of the pair's key and the operand's bytes. For TEST
and TRAP the operand is the word expect:mask, for a branch the raw offset byte. Of an unregistered pair the operand is
not looked at (DESIGN CHOICE, log 3). -/
def encode (cfg : Config) (m : Mnemonic) (mode : Mode) (operand : Nat) : Except EncodeError (List Byte) :=
  match keyOf cfg m mode with
  | none => .error .unregistered
  | some i =>
    if 256 ^ mode.operandBytes ≤ operand then .error .operandOutOfRange
    else .ok (i.opcode cfg :: operandToBytes mode.operandBytes operand)

/-- Why bytes spell no instruction. -/
inductive DecodeFailure
  /-- No byte at all. -/
  | empty
  /-- The opcode byte is not registered (30 R106). -/
  | unregistered (opcode : Byte)
  /-- The operand bytes of the instruction are missing. -/
  | truncated (i : Instr)
  deriving DecidableEq, Repr

/-- The instruction, its operand and the remaining bytes that a list of bytes starts with (30 R100 to
R105). -/
def decode (cfg : Config) : List Byte → Except DecodeFailure (Instr × Nat × List Byte)
  | [] => .error .empty
  | b :: bs =>
    match decodeOpcode cfg b with
    | none => .error (.unregistered b)
    | some i =>
      if bs.length < i.operandBytes then .error (.truncated i)
      else .ok (i, operandOfBytes (bs.take i.operandBytes), bs.drop i.operandBytes)

/-- The bytes of a table word, lowest address first: as many as `nbits` gives, then zeros up to the
longest instruction (3 bytes, 30 R100). -/
def tableBytes (nbits w : Nat) : List Byte :=
  (List.range 3).map fun k =>
    if 8 * k < nbits then BitVec.ofNat 8 (w / 256 ^ k) else 0#8

/-- The instruction the decoder reads from a table word (bit 0 the least significant bit of the first
byte), under the default configuration. -/
def decodeTableWord (nbits w : Nat) : Option Instr :=
  match decode {} (tableBytes nbits w) with
  | .ok (i, _) => some i
  | .error _ => none

end Sys2Proof
end

