-- ==== Sys2Proof/Machine/Quantity.lean ====
section
/-!
DEFINITION. The real numbers of the pacing clock (00 R8 RATE, 60 R370) as plain data: a term over rationals and named
reals, its value in ℝ for any meaning `ρ` of the names, the arithmetic and comparisons of 60 R372 to R376 on terms, and
the free values of NUDGE. The comparisons are those of ℝ; between rationals they compute (log 21).
-/

namespace Sys2Proof.Machine

/-- A real number, written down. A name stands for any real at all, so every positive real is the value of some RATE
(00 R8; log 21). -/
inductive Quantity
  | rat (q : Rat)
  /-- the real number of that name -/
  | real (name : Nat)
  | add (x y : Quantity)
  | sub (x y : Quantity)
  | mul (x y : Quantity)
  | div (x y : Quantity)
  /-- the factor of NUDGE at a delay, an achieved rate and a target rate (60 R374) -/
  | nudge (delay achieved rate : Quantity)
  /-- the achieved rate where no unpaused time has passed (60 R374) -/
  | rateAtNoTime (since : Nat)
  deriving DecidableEq, Repr, Inhabited

/-- The factor of NUDGE: positive, below 1 when too slow, above 1 when too fast, otherwise any positive real (60 R374;
free, log 15). -/
noncomputable def nudgeFactor (delay achieved rate : ℝ) : ℝ :=
  let n := |Config.nudgeNum delay achieved rate| + 1
  let m := |Config.nudgeDen delay achieved rate| + 1
  if achieved < rate then n / (n + m) else if rate < achieved then (n + m) / n else n / m

/-- The real number a term stands for, where `ρ` gives the numbers that the names stand for. -/
noncomputable def Quantity.value (ρ : Nat → ℝ) : Quantity → ℝ
  | .rat q => q
  | .real name => ρ name
  | .add x y => x.value ρ + y.value ρ
  | .sub x y => x.value ρ - y.value ρ
  | .mul x y => x.value ρ * y.value ρ
  | .div x y => x.value ρ / y.value ρ
  | .nudge delay achieved rate => nudgeFactor (delay.value ρ) (achieved.value ρ) (rate.value ρ)
  | .rateAtNoTime since => Config.rateAtNoTime since

/-- The sum. -/
def Quantity.plus : Quantity → Quantity → Quantity
  | .rat p, .rat q => .rat (p + q)
  | x, y => .add x y

/-- The difference. -/
def Quantity.minus : Quantity → Quantity → Quantity
  | .rat p, .rat q => .rat (p - q)
  | x, y => .sub x y

/-- The product. -/
def Quantity.times : Quantity → Quantity → Quantity
  | .rat p, .rat q => .rat (p * q)
  | x, y => .mul x y

/-- The quotient. -/
def Quantity.over : Quantity → Quantity → Quantity
  | .rat p, .rat q => .rat (p / q)
  | x, y => .div x y

open Classical in
/-- Whether the first is smaller than the second. -/
noncomputable def Quantity.less (ρ : Nat → ℝ) : Quantity → Quantity → Bool
  | .rat p, .rat q => decide (p < q)
  | x, y => decide (x.value ρ < y.value ρ)

/-- The larger of two. -/
noncomputable def Quantity.larger (ρ : Nat → ℝ) (x y : Quantity) : Quantity := if x.less ρ y then y else x

/-- The smaller of two. -/
noncomputable def Quantity.smaller (ρ : Nat → ℝ) (x y : Quantity) : Quantity := if y.less ρ x then y else x

/-- Whether a quantity is neither below nor above zero. -/
noncomputable def Quantity.isZero (ρ : Nat → ℝ) (x : Quantity) : Bool :=
  !x.less ρ (.rat 0) && !Quantity.less ρ (.rat 0) x

end Sys2Proof.Machine

namespace Sys2Proof

/-- FREE VALUE (60 R371, log 21): what a listener makes of a comparison of a quantity that is not written as a
rational with a threshold. Nothing constrains it: a listener's arithmetic is its own. -/
opaque Config.listenerAtLeast : Machine.Quantity → Rat → Bool

end Sys2Proof

namespace Sys2Proof.Machine

/-- Whether a quantity that a listener is handed is at least a threshold, as the listener sees it. -/
def Quantity.seenAtLeast : Quantity → Rat → Bool
  | .rat p, q => decide (q ≤ p)
  | x, q => Config.listenerAtLeast x q

end Sys2Proof.Machine
end

