-- ==== Sys2Proof/Machine/Code.lean ====
section
/-!
DEFINITION. The code of peripherals, timing listeners, task actions and intercept handlers as first-order data, so
that State holds no function (log 8, 9, 10): handles, snapshot requests, byte expressions, tests, actions, handlers
and listeners; and the free values that stand for what such code leaves open.
-/

namespace Sys2Proof.Machine

/-! ## What code refers to -/

/-- A task's handle (60 R361): only `State.newTask` makes one that names a task (log 9). -/
structure Handle where
  index : Nat
  deriving DecidableEq, Repr, Inhabited

/-- The persisted-state component: the register file and flag byte, in the order of 10 R50. -/
structure Image where
  a : Byte
  x : Byte
  y : Byte
  s : Byte
  pc : Word
  p : Byte
  deriving DecidableEq, Repr

/-- A snapshot or restore request (10 R43). -/
inductive SnapRequest
  | capture
  | restore (image : Image)
  deriving DecidableEq, Repr

/-- The register file by bytes, as an intercept handler reads and writes it (20 R84). -/
inductive CpuReg
  | a | x | y | s | p | pcHi | pcLo
  deriving DecidableEq, Repr

/-- What a call hands to the code it calls: a bus access its address and byte (20 R71), `on_tick` the rate and
the elapsed wall time in nanoseconds, `set_paused` its argument (60 R371). -/
structure Call where
  addr : Word := 0#16
  byte : Byte := 0#8
  rate : Quantity := .rat 0
  elapsed : Quantity := .rat 0
  paused : Bool := false
  deriving DecidableEq, Repr

/-! ## Expressions and tests -/

/-- A byte that code computes; `ρ` is the type of the registers it can read. -/
inductive CodeExpr (ρ : Type)
  | const (v : Byte)
  /-- the byte that the call hands over -/
  | given
  /-- the high byte of the address that the call hands over -/
  | addrHi
  /-- the low byte of the address that the call hands over -/
  | addrLo
  | reg (r : ρ)
  /-- the byte of memory at `hi:lo` -/
  | mem (hi lo : CodeExpr ρ)
  | add (e f : CodeExpr ρ)
  | sub (e f : CodeExpr ρ)
  | and (e f : CodeExpr ρ)
  | or (e f : CodeExpr ρ)
  | xor (e f : CodeExpr ρ)
  /-- a free byte, the same for one label in one run of the code -/
  | draw (label : Nat)
  deriving DecidableEq, Repr

/-- A Bool that code computes. -/
inductive CodeTest (ρ : Type)
  | eq (e f : CodeExpr ρ)
  | less (e f : CodeExpr ρ)
  /-- the elapsed wall time handed over is at least `ns` -/
  | elapsedAtLeast (ns : Rat)
  /-- the rate handed over is at least `r` -/
  | rateAtLeast (r : Rat)
  /-- the argument of `set_paused` -/
  | paused
  | not (t : CodeTest ρ)
  | and (t u : CodeTest ρ)
  deriving DecidableEq, Repr

/-- The test that always holds. -/
def CodeTest.always {ρ : Type} : CodeTest ρ := .eq .given .given

/-! ## Actions, listeners and devices (20 R71, 60 R365, R367, R371) -/

/-- What a task action, a listener or a device's reaction does (60 R367): any sequence of scheduler calls,
requests, changes of interrupt lines and changes of the bytes a peripheral owns, chosen by what the call hands over
and by what memory holds, with free draws for what is left open. -/
inductive Action
  /-- nothing -/
  | skip
  /-- one after the other -/
  | seq (first second : Action)
  /-- one of two -/
  | ifElse (t : CodeTest Empty) (yes no : Action)
  /-- `schedule(handle, delay)` (60 R362) -/
  | schedule (handle : Handle) (delay : Int)
  /-- `unschedule(handle)` (60 R363) -/
  | unschedule (handle : Handle)
  /-- `reschedule(handle, delay)` (60 R364) -/
  | reschedule (handle : Handle) (delay : Int)
  /-- `new_task(action)` (60 R361) -/
  | newTask (action : Action)
  /-- `schedule(new_task(action), delay)` -/
  | newTaskScheduled (action : Action) (delay : Int)
  /-- `request_nmi()` (60 R332) -/
  | requestNmi
  /-- `request_reset()` (60 R332) -/
  | requestReset
  /-- the IRQ output of source `n` becomes `level` -/
  | setIrq (n : Nat) (level : Bool)
  /-- the NMI output of source `n` becomes `level` -/
  | setNmi (n : Nat) (level : Bool)
  /-- a peripheral changes the byte at `hi:lo` (20 R88) -/
  | poke (hi lo v : CodeExpr Empty)
  /-- a free action: any of the above, drawn at each run -/
  | free (label : Nat)
  deriving DecidableEq, Repr, Inhabited

/-- A timing listener other than the engine (60 R371). -/
structure Listener where
  onTick : Action
  setPaused : Action := .skip
  deriving DecidableEq, Repr

/-- An external device's window of addresses, `first` to `last` inclusive: it answers reads itself, takes
writes, and reacts to each (20 R71, R73; log 8). -/
structure Device where
  first : Nat
  last : Nat
  onRead : Action := .skip
  onWrite : Action := .skip
  deriving DecidableEq, Repr

/-! ## Intercept handlers (20 R84, 70 R420) -/

/-- What an intercept handler does: it reads and writes registers and memory, posts requests, calls the
scheduler, chooses by what it reads, and draws freely what is left open. -/
inductive HandlerCode
  /-- nothing -/
  | skip
  /-- one after the other -/
  | seq (first second : HandlerCode)
  /-- one of two -/
  | ifElse (t : CodeTest CpuReg) (yes no : HandlerCode)
  /-- scheduler calls, requests, peripheral state -/
  | act (action : Action)
  /-- a register written -/
  | set (r : CpuReg) (v : CodeExpr CpuReg)
  /-- the byte at `hi:lo` written -/
  | poke (hi lo v : CodeExpr CpuReg)
  /-- a snapshot or restore request posted -/
  | snapshot (request : SnapRequest)
  /-- free code: any of the above, drawn at each run -/
  | free (label : Nat)
  deriving DecidableEq, Repr, Inhabited

/-- A fetch-intercept handler: what it does, and whether the fetch proceeds, read from the state its code
left (20 R84). -/
structure Handler where
  code : HandlerCode
  proceed : CodeTest CpuReg
  deriving DecidableEq, Repr

end Sys2Proof.Machine

namespace Sys2Proof

/-- FREE VALUE (70 R420, log 8, 9, 10): the byte that the draw of a label is in the n-th run of peripheral or
handler code. Nothing constrains it. -/
opaque Config.freeByte : Nat → Nat → Byte

/-- FREE VALUE (70 R420, log 9): what the free action of a label does in the n-th run. -/
opaque Config.freeAction : Nat → Nat → Machine.Action

/-- FREE VALUE (70 R420, log 10): what the free handler code of a label does in the n-th run. -/
opaque Config.freeHandler : Nat → Nat → Machine.HandlerCode

end Sys2Proof
end

