-- ==== Sys2Proof/Machine/State.lean ====
section
/-!
DEFINITION. The state of the core as plain data: the register file, the engine's control state, the micro-op
queue with its finite type of cycle descriptors, memory and the bus port's data, the scheduler, the pacing
clock, the configuration; the faults and refusals; and the state after reset.
-/

namespace Sys2Proof.Machine

/-! ## Faults, refusals, halt codes -/

/-- The kind of a bus access (60 R323). -/
inductive AccessKind
  | read
  | write
  deriving DecidableEq, Repr

/-- The fatal conditions of 60 R321 to R324. The tick that detects one records it in `State.fault` and is
a next state (60 R320); `step` answers `.fault` with it from then on, because a faulted engine has no
tick (40 R137; log 5). -/
inductive Fault
  /-- Raised by FetchDecode in T1 when the opcode byte is not registered (60 R321). Safe: the spec
  stops here too. -/
  | decodeError (opcode : Byte) (at_ : Word)
  /-- Raised by any cycle whose access is at an unmapped address (60 R323). Safe: the spec stops here
  too. -/
  | busUnmapped (addr : Word) (kind : AccessKind)
  /-- Raised by a push onto a full queue (60 R322). Safe: the spec stops here too, and no instruction
  reaches it. -/
  | queueOverflow
  /-- Raised when a tick that is not quiescent finds the queue empty (60 R322, 10 R52). Safe: the spec
  stops here too, and no instruction reaches it. -/
  | queueUnderflow
  /-- Raised by a scheduler call with a delay below 1 (60 R324). Safe: the spec stops here too. -/
  | schedulerBadDelay (handle : Handle) (delay : Int)
  deriving DecidableEq, Repr

/-- Why the model gives an input no meaning. -/
inductive Refusal
  /-- Raised by `exec` for an instruction that has no meaning yet. Safe: the model stops. No arm uses
  it. -/
  | notModelled (mnemonic : String)
  /-- Raised by `step` for a configuration the registry cannot be built from, which has no run (30 R109).
  Safe: the model stops. -/
  | badConfiguration
  /-- Raised by `setRate` for a rate of zero or less, which has no meaning (60 R372). Safe: the model
  stops. -/
  | badRate
  deriving DecidableEq, Repr

/-- The halt codes of 10 R46 and 60 R326. -/
inductive HaltCode
  /-- 0: HALT. -/
  | halted
  /-- 1: TEST mismatch. -/
  | testMismatch
  /-- 2: TRAP. -/
  | trapped
  deriving DecidableEq, Repr

/-! ## Class functions and cycle descriptors (40 R140, R141) -/

/-- An index register (40 R145, R146). -/
inductive Index
  | x
  | y
  deriving DecidableEq, Repr

/-- The value-consuming actions: the class R instructions. -/
inductive ReadOp
  | lda | ldx | ldy | adc | sbc | and | ora | eor | cmp | cpx | cpy | bit
  deriving DecidableEq, Repr

/-- The class W instructions. -/
inductive WriteOp
  | sta | stx | sty
  deriving DecidableEq, Repr

/-- The value-transforming actions: the class M instructions. -/
inductive ModifyOp
  | asl | lsr | rol | ror | inc | dec
  deriving DecidableEq, Repr

/-- The implied actions: the class I instructions. -/
inductive ImpliedOp
  | tax | tay | txa | tya | tsx | txs | inx | iny | dex | dey
  | clc | sec | cli | sei | cld | sed | clv | nop
  deriving DecidableEq, Repr

/-- The branch-condition predicates: the class B instructions (45 R277 to R284). -/
inductive Condition
  | carryClear | carrySet | equal | minus | notEqual | plus | overflowClear | overflowSet
  deriving DecidableEq, Repr

/-- The vectors of 20 R81. -/
inductive Vector
  | nmi | reset | irq
  deriving DecidableEq, Repr

/-- A micro-op: a cycle descriptor (40 R140), that is, one row of a cycle table. Its bus access, writes and
conditional push are `MicroOp.access`, `MicroOp.effect` and `MicroOp.follow`. -/
inductive MicroOp
  /-- class I T2 (40 R142) -/
  | implied (op : ImpliedOp)
  /-- class M accumulator T2 (40 R153) -/
  | accumulator (op : ModifyOp)
  /-- class R immediate T2 (40 R143) -/
  | readImmediate (op : ReadOp)
  /-- `lo <- R PC; PC++` -/
  | fetchLo
  /-- `hi <- R PC; PC++` -/
  | fetchHi
  /-- `hi <- R PC; PC++; carry, lo <- lo + index` (40 R146, R150, R152) -/
  | fetchHiIndexed (ix : Index)
  /-- `ptr <- R PC; PC++` -/
  | fetchPtr
  /-- `R 0x00:lo (dummy); lo <- lo +8 index` (40 R145, R149, R152) -/
  | indexZeroPage (ix : Index)
  /-- `R 0x00:ptr (dummy); ptr <- ptr +8 X` (40 R147, R151) -/
  | indexPtr
  /-- `lo <- R 0x00:ptr` -/
  | pointerLo
  /-- `hi <- R 0x00:(ptr +8 1)` -/
  | pointerHi
  /-- `hi <- R 0x00:(ptr +8 1); carry, lo <- lo + Y` (40 R148, R151) -/
  | pointerHiIndexed
  /-- `v <- R 0x00:lo; f(v)` -/
  | readZeroPage (op : ReadOp)
  /-- `v <- R hi:lo; f(v)` -/
  | readAbsolute (op : ReadOp)
  /-- `v <- R hi:lo; if not carry: f(v) else push the corrected read` (40 R146 T4, R148 T5) -/
  | readSpeculative (op : ReadOp)
  /-- `v <- R (hi +8 1):lo; f(v)` (40 R146 T5, R148 T6) -/
  | readCorrected (op : ReadOp)
  /-- `R hi:lo (dummy); if carry: hi <- hi +8 1` (40 R150 to R152) -/
  | correctHi
  /-- `W 0x00:lo g()` -/
  | writeZeroPage (op : WriteOp)
  /-- `W hi:lo g()` -/
  | writeAbsolute (op : WriteOp)
  /-- `data <- R 0x00:lo` -/
  | loadZeroPage
  /-- `data <- R hi:lo` -/
  | loadAbsolute
  /-- `W 0x00:lo data` -/
  | writeBackZeroPage
  /-- `W hi:lo data` -/
  | writeBackAbsolute
  /-- `W 0x00:lo h(data); flags` -/
  | modifyZeroPage (op : ModifyOp)
  /-- `W hi:lo h(data); flags` -/
  | modifyAbsolute (op : ModifyOp)
  /-- `R PC (dummy)` -/
  | dummyPc
  /-- `R PC (dummy); PC++` (45 R273 T6, R275 T2) -/
  | dummyPcAdvance
  /-- `R 0x0100+(S -8 back) (dummy)` (45 R272 T3, 60 R343 T3 to T5) -/
  | dummyStack (back : Fin 3)
  /-- `R 0x0100+S (dummy); S <- S +8 1` -/
  | dummyStackPull
  /-- `W 0x0100+S A; S <- S -8 1` (44 R260) -/
  | pushA
  /-- `W 0x0100+S (P | 0x30); S <- S -8 1` (44 R261) -/
  | pushP
  /-- `v <- R 0x0100+S; A <- v; setNZ(v)` (44 R262) -/
  | pullA
  /-- `v <- R 0x0100+S; P <- v` (44 R263) -/
  | pullP
  /-- `v <- R 0x0100+S; P <- v; S <- S +8 1` (45 R274 T4) -/
  | pullPAdvance
  /-- `lo <- R 0x0100+S; S <- S +8 1` (45 R273, R274) -/
  | pullLo
  /-- `hi <- R 0x0100+S; PC <- hi:lo` (45 R273, R274) -/
  | pullHiJump
  /-- `hi <- R PC; PC <- hi:lo` (45 R270 T3, R272 T6) -/
  | fetchHiJump
  /-- `plo <- R PC; PC++` (45 R271) -/
  | fetchPointerLo
  /-- `phi <- R PC; PC++` (45 R271) -/
  | fetchPointerHi
  /-- `lo <- R phi:plo` (45 R271) -/
  | indirectLo
  /-- `hi <- R phi:(plo +8 1); PC <- hi:lo` (45 R271) -/
  | indirectHiJump
  /-- `W 0x0100+S PC.hi; S <- S -8 1` -/
  | pushPcHi
  /-- `W 0x0100+S PC.lo; S <- S -8 1` -/
  | pushPcLo
  /-- `W 0x0100+S status; S <- S -8 1; P.I <- 1`, the status with B as given and R = 1 (45 R275 T5,
  60 R341 T5) -/
  | pushStatus (b : Bool)
  /-- `lo <- R vector` -/
  | vectorLo (v : Vector)
  /-- `hi <- R vector + 1; PC <- hi:lo`, and the end of the service when `ends` (45 R275 T7, 60 R341,
  R342 T7) -/
  | vectorHi (v : Vector) (ends : Bool)
  /-- `hi <- R 0xFFFD; PC <- hi:lo; the register file reinitialised; the end of the service`
  (60 R343 T7) -/
  | resetEnd
  /-- `off <- R PC; PC++; if cond(P): push the taken cycle` (45 R276 T2) -/
  | branchFetch (c : Condition)
  /-- `R PC (dummy); PC <- PC.hi:newpc.lo; if the page changes: push the correcting cycle` (45 R276 T3) -/
  | branchTake
  /-- `R PC (dummy); PC <- newpc` (45 R276 T4) -/
  | branchCorrect
  /-- `R PC (dummy); halt(0)` (47 R310 T2) -/
  | haltNow
  /-- `mask <- R PC; PC++` (47 R311 T2) -/
  | fetchMask
  /-- `expect <- R PC; PC++; if not Cond: halt(1)` (47 R311 T3) -/
  | testFlags
  /-- `expect <- R PC; PC++; if Cond: halt(2)` (47 R312 T3) -/
  | trapFlags
  deriving DecidableEq, Repr

/-! ## Engine control data -/

/-- The event a service sequence serves (10 R44). -/
inductive ServiceKind
  | irq | nmi | reset
  deriving DecidableEq, Repr

/-- The instruction temporaries of 10 R45, and `mask` of 47 R311. -/
structure Temps where
  opcode : Byte := 0#8
  lo : Byte := 0#8
  hi : Byte := 0#8
  ptr : Byte := 0#8
  plo : Byte := 0#8
  phi : Byte := 0#8
  data : Byte := 0#8
  off : Byte := 0#8
  mask : Byte := 0#8
  carry : Bool := false
  newpc : Word := 0#16
  deriving DecidableEq, Repr

/-- One bus cycle as it was performed: MODEL's own observation of 20 R72 (log 12). -/
inductive BusCycle
  | read (addr : Word) (v : Byte)
  | write (addr : Word) (v : Byte)
  deriving DecidableEq, Repr

/-! ## Scheduler and pacing clock -/

/-- A scheduled task (60 R360); its handle is its position in the task list. A task that was never scheduled has count 0
and seq 0, for which 60 R361 gives no value (DESIGN CHOICE, log 22); nothing reads either of a task that is not live. -/
structure Task where
  action : Action
  live : Bool := false
  count : Nat := 0
  seq : Nat := 0
  deriving DecidableEq, Repr

/-- The scheduler's state (60 R360, R362). At power-on and at reset no task has been scheduled and `next_seq` is 0, which
no rule gives (DEDUCED from 95 S11, where the first call has seq 0; log 22). -/
structure Sched where
  tasks : List Task := []
  nextSeq : Nat := 0
  deriving DecidableEq, Repr

/-- The pacing clock's state (60 R370), its reals as quantities, times in nanoseconds (log 15, 21). -/
structure Clock where
  total : Nat := 0
  since : Nat := 0
  rate : Quantity := .rat 2000000
  nominal : Quantity := .rat 500
  delay : Quantity := .rat 500
  throttled : Bool := false
  paused : Bool := false
  deadline : Quantity := .rat 0
  tResync : Quantity := .rat 0
  pausedNs : Quantity := .rat 0
  lastTick : Quantity := .rat 0
  /-- the latest reading of `now()`, which never decreases (60 R373, log 15) -/
  lastNow : Quantity := .rat 0
  /-- the published achieved rate (60 R375) -/
  metrics : Option Quantity := none
  /-- `RESYNC_CYCLES`, an integer (00 R8) -/
  resyncCycles : Int := 2000000
  /-- the listeners of `LISTENERS` called before the engine -/
  before : List Listener := []
  /-- the listeners of `LISTENERS` called after the engine -/
  after : List Listener := []
  deriving DecidableEq, Repr

/-! ## Memory and State -/

/-- Memory: (address, byte) pairs by strictly rising address, none equal to what an unlisted address reads
as (`Memory.wf` of Ops.lean). -/
abbrev Memory := List Host.Cell

/-- The whole state. The fields `captured`, `bus`, `busDraws` and `codeDraws` and the data of the
environment (`irqLines`, `nmiLines`, `devices`, `intercepts`) are the ports of 00 R15 as the model holds them. -/
structure State where
  /-- accumulator A (10 R31) -/
  a : Byte
  /-- index register X (10 R32) -/
  x : Byte
  /-- index register Y (10 R33) -/
  y : Byte
  /-- stack pointer S (10 R34) -/
  sp : Byte
  /-- program counter PC (10 R35) -/
  pc : Word
  /-- flag byte P (10 R36) -/
  p : Byte
  /-- the reset request (10 R41) -/
  resetPending : Bool
  /-- the latched NMI request (10 R42) -/
  nmiLatch : Bool
  /-- the aggregate NMI level at the previous quiescent point (10 R42) -/
  nmiPrev : Bool
  /-- the pending snapshot or restore request (10 R43) -/
  snapReq : Option SnapRequest
  /-- the image the last Capture handed to the host (10 R50; log 11) -/
  captured : Option Image
  /-- a service sequence is running (10 R44) -/
  servicing : Bool
  /-- which sequence (10 R44) -/
  svcKind : ServiceKind
  /-- the instruction temporaries (10 R45) -/
  tmp : Temps
  /-- the halt state (10 R46) -/
  halted : Option HaltCode
  /-- the fault state (10 R47) -/
  fault : Option Fault
  /-- the cycle counter (10 R48) -/
  cycles : Nat
  /-- the micro-op queue, head first (10 R49) -/
  queue : List MicroOp
  /-- memory of the default bus (20 R70, R71) -/
  mem : Memory
  /-- the bus cycles of the current instruction or sequence, oldest first (20 R72; log 12) -/
  bus : List BusCycle
  /-- how many free bus answers were drawn (log 8) -/
  busDraws : Nat
  /-- how many runs of peripheral and handler code there were (log 8, 9, 10) -/
  codeDraws : Nat
  /-- the IRQ outputs of the sources (60 R330) -/
  irqLines : List Bool
  /-- the NMI outputs of the sources (60 R330) -/
  nmiLines : List Bool
  /-- the external devices on the bus (20 R71, R82) -/
  devices : List Device
  /-- the installed fetch intercepts (20 R84) -/
  intercepts : List (Word × Handler)
  /-- the scheduler (60 R360) -/
  sched : Sched
  /-- the pacing clock (60 R370) -/
  clock : Clock
  /-- the configuration (00 R8; log 6) -/
  cfg : Config
  deriving DecidableEq, Repr

/-- The state right after the reset service sequence from power-on completes (10 R53), under the default
configuration and with nothing listed in memory: PC is the word at 0xFFFC/0xFFFD, P.I = 1, the other
registers hold the defaults of R53 (DESIGN CHOICE, log 1, 2). -/
def State.reset : State where
  a := 0x00#8
  x := 0x00#8
  y := 0x00#8
  sp := 0xFD#8
  pc := 0x0000#16
  p := 0x24#8
  resetPending := false
  nmiLatch := false
  nmiPrev := false
  snapReq := none
  captured := none
  servicing := false
  svcKind := .reset
  tmp := {}
  halted := none
  fault := none
  cycles := 7
  queue := []
  mem := []
  bus := []
  busDraws := 0
  codeDraws := 0
  irqLines := []
  nmiLines := []
  devices := []
  intercepts := []
  sched := {}
  clock := {}
  cfg := {}

end Sys2Proof.Machine
end

