-- ==== Sys2Proof/Machine/Ops.lean ====
section
/-!
DEFINITION. The named operations of the machine: byte-order helpers, memory, the bus port, faults and halts,
scheduler calls and the scheduler pass, the micro-op queue, the frame of one tick, and vectored entry
(IRQ, NMI, reset, BRK) with the return from it.
-/

namespace Sys2Proof.Machine

/-! ## Bytes and words (00 R10) -/

/-- `hi:lo`, the word of two bytes (00 R10, 20 R74). -/
def wordOf (hi lo : Byte) : Word := hi ++ lo

/-- `w.hi = w[15:8]` (00 R10). -/
def hiByte (w : Word) : Byte := w.extractLsb' 8 8

/-- `w.lo = w[7:0]` (00 R10). -/
def loByte (w : Word) : Byte := w.extractLsb' 0 8

/-- `sext_16` (00 R10). -/
def signExtend16 (b : Byte) : Word := b.signExtend 16

/-- The zero-page address of a byte, `0x00:b` (20 R79). -/
def zeroPage (b : Byte) : Word := wordOf 0x00#8 b

/-- The stack address of S, `0x0100 + S` (20 R80). -/
def stackAddr (sp : Byte) : Word := wordOf 0x01#8 sp

/-- The address of a vector's low byte (20 R81). -/
def vectorAddr : Vector → Word
  | .nmi => 0xFFFA#16
  | .reset => 0xFFFC#16
  | .irq => 0xFFFE#16

/-! ## Memory (20 R70, R71) -/

/-- What an address that no cell lists reads as (DESIGN CHOICE, log 1). -/
def Memory.fill : Byte := 0x00#8

/-- The byte at an address: the last one written there (20 R71). -/
def Memory.read : Memory → Nat → Byte
  | [], _ => Memory.fill
  | (b, v) :: m, a => if b = a then v else Memory.read m a

/-- The cells at every other address. -/
def Memory.erase (m : Memory) (a : Nat) : Memory := m.filter fun c => c.1 != a

/-- A cell put before the first cell of a higher address. -/
def Memory.insert : Memory → Nat → Byte → Memory
  | [], a, v => [(a, v)]
  | (b, w) :: m, a, v => if a < b then (a, v) :: (b, w) :: m else (b, w) :: Memory.insert m a v

/-- A byte written at an address; writing what an unlisted address reads as removes the cell. -/
def Memory.write (m : Memory) (a : Nat) (v : Byte) : Memory :=
  if v = Memory.fill then m.erase a else (m.erase a).insert a v

/-- Canonical form from a lower bound on. -/
def Memory.wfFrom : Nat → Memory → Bool
  | _, [] => true
  | lo, (a, v) :: m =>
    decide (lo ≤ a) && decide (a < 65536) && decide (v ≠ Memory.fill) && Memory.wfFrom (a + 1) m

/-- The canonical form: addresses strictly rising, all in the 64 KiB space (20 R70), no cell equal to
what an unlisted address reads as. -/
def Memory.wf (m : Memory) : Bool := m.wfFrom 0

/-- The byte of memory at a 16-bit address. -/
def State.memByte (s : State) (addr : Word) : Byte := s.mem.read addr.toNat

/-- Memory with a byte written at a 16-bit address. -/
def State.setMem (s : State) (addr : Word) (v : Byte) : State :=
  { s with mem := s.mem.write addr.toNat v }

/-! ## Faults and halts (00 R13, 60 R320, R325) -/

/-- `raise F`: the fault is recorded; a fault already recorded stays (60 R320). -/
def State.raise (s : State) (f : Fault) : State :=
  if s.fault.isSome then s else { s with fault := some f }

/-- `halt(c)` (60 R325). -/
def State.halt (s : State) (c : HaltCode) : State := { s with halted := some c }

/-- A halted or faulted engine, which has no tick (40 R137). -/
def State.stopped (s : State) : Bool := s.halted.isSome || s.fault.isSome

/-- The numeric fault codes of 60 R326. -/
def Fault.code : Fault → Nat
  | .decodeError _ _ => 1
  | .busUnmapped _ _ => 2
  | .queueOverflow => 3
  | .queueUnderflow => 4
  | .schedulerBadDelay _ _ => 5

/-- The numeric halt codes of 60 R326. -/
def HaltCode.code : HaltCode → Nat
  | .halted => 0
  | .testMismatch => 1
  | .trapped => 2

/-! ## Scheduler calls (60 R361 to R364) -/

/-- The handle is one that `new_task` gave (60 R361). -/
def State.knows (s : State) (h : Handle) : Bool := decide (h.index < s.sched.tasks.length)

/-- `new_task(action)` (60 R361): the handle of a new task, which is not live, and the state with it. -/
def State.newTask (s : State) (action : Action) : Handle × State :=
  (⟨s.sched.tasks.length⟩,
    { s with sched := { s.sched with tasks := s.sched.tasks ++ [{ action := action }] } })

/-- `schedule(handle, delay)` (60 R362). With a handle that `new_task` never gave there is no such call, and
nothing changes (log 9). -/
def State.schedule (s : State) (h : Handle) (d : Int) : State :=
  if s.knows h then
    if d < 1 then s.raise (.schedulerBadDelay h d)
    else
      { s with
        sched :=
          { tasks := s.sched.tasks.modify h.index fun t =>
              { t with count := d.toNat, live := true, seq := s.sched.nextSeq }
            nextSeq := s.sched.nextSeq + 1 } }
  else s

/-- `unschedule(handle)` (60 R363). -/
def State.unschedule (s : State) (h : Handle) : State :=
  { s with
    sched := { s.sched with tasks := s.sched.tasks.modify h.index fun t => { t with live := false } } }

/-- `reschedule(handle, delay)`: cancel, then schedule (60 R364). -/
def State.reschedule (s : State) (h : Handle) (d : Int) : State := (s.unschedule h).schedule h d

/-- The state an effect leads to, or the state itself once the engine is faulted (60 R320, R324). -/
def State.unlessFaulted (s t : State) : State := if s.fault.isSome then s else t

/-! ## Peripheral and handler code (60 R367, 70 R420; log 8, 9, 10) -/

/-- The byte an expression gives in a state, under a call, with the registers it can read. -/
def CodeExpr.value {ρ : Type} (regs : ρ → Byte) (call : Call) (s : State) : CodeExpr ρ → Byte
  | .const v => v
  | .given => call.byte
  | .addrHi => hiByte call.addr
  | .addrLo => loByte call.addr
  | .reg r => regs r
  | .mem hi lo => s.memByte (wordOf (hi.value regs call s) (lo.value regs call s))
  | .add e f => e.value regs call s + f.value regs call s
  | .sub e f => e.value regs call s - f.value regs call s
  | .and e f => e.value regs call s &&& f.value regs call s
  | .or e f => e.value regs call s ||| f.value regs call s
  | .xor e f => e.value regs call s ^^^ f.value regs call s
  | .draw k => Config.freeByte s.codeDraws k

/-- Whether a test holds in a state, under a call. -/
def CodeTest.holds {ρ : Type} (regs : ρ → Byte) (call : Call) (s : State) : CodeTest ρ → Bool
  | .eq e f => e.value regs call s == f.value regs call s
  | .less e f => decide ((e.value regs call s).toNat < (f.value regs call s).toNat)
  | .elapsedAtLeast ns => call.elapsed.seenAtLeast ns
  | .rateAtLeast r => call.rate.seenAtLeast r
  | .paused => call.paused
  | .not t => !t.holds regs call s
  | .and t u => t.holds regs call s && u.holds regs call s

/-- The registers of code that can read none. -/
def noRegs : Empty → Byte := nofun

/-- The byte that code writes at an address it computes. -/
def State.poked {ρ : Type} (s : State) (regs : ρ → Byte) (call : Call) (hi lo v : CodeExpr ρ) : State :=
  s.setMem (wordOf (hi.value regs call s) (lo.value regs call s)) (v.value regs call s)

/-- The effects of an action under a call (60 R367); `onFree` is what its free parts do. -/
def Action.run (onFree : Nat → State → State) (call : Call) : Action → State → State
  | .skip, s => s
  | .seq f g, s => g.run onFree call (f.run onFree call s)
  | .ifElse t f g, s =>
    if t.holds noRegs call s then f.run onFree call s else g.run onFree call s
  | .schedule h d, s => s.unlessFaulted (s.schedule h d)
  | .unschedule h, s => s.unlessFaulted (s.unschedule h)
  | .reschedule h d, s => s.unlessFaulted (s.reschedule h d)
  | .newTask a, s => s.unlessFaulted (s.newTask a).2
  | .newTaskScheduled a d, s => s.unlessFaulted ((s.newTask a).2.schedule (s.newTask a).1 d)
  | .requestNmi, s => s.unlessFaulted { s with nmiLatch := true }
  | .requestReset, s => s.unlessFaulted { s with resetPending := true }
  | .setIrq n b, s => s.unlessFaulted { s with irqLines := s.irqLines.set n b }
  | .setNmi n b, s => s.unlessFaulted { s with nmiLines := s.nmiLines.set n b }
  | .poke hi lo v, s => s.unlessFaulted (s.poked noRegs call hi lo v)
  | .free k, s => onFree k s

/-- What a free action does: the action drawn for this run, whose own free parts do nothing, since it is any
action already. -/
def runFreeAction (k : Nat) (s : State) : State :=
  (Config.freeAction s.codeDraws k).run (fun _ t => t) {} s

/-- A run of code counted; every run has draws of its own. -/
def State.drawn (s : State) : State := { s with codeDraws := s.codeDraws + 1 }

/-- A run of peripheral code (60 R367; log 9); none on a faulted engine (60 R320). -/
def runAction (call : Call) (a : Action) (s : State) : State :=
  s.unlessFaulted (a.run runFreeAction call s).drawn

/-! ## The scheduler pass (60 R365) -/

/-- A (seq, position) pair put into a list sorted by seq. -/
def insertBySeq (t : Nat × Nat) : List (Nat × Nat) → List (Nat × Nat)
  | [] => [t]
  | u :: us => if t.1 ≤ u.1 then t :: u :: us else u :: insertBySeq t us

/-- The (seq, position) pairs of the live tasks, the first task's position being `from_`. -/
def liveHandles : List Task → Nat → List (Nat × Nat)
  | [], _ => []
  | t :: ts, from_ =>
    if t.live then (t.seq, from_) :: liveHandles ts (from_ + 1) else liveHandles ts (from_ + 1)

/-- The handles of the live tasks in increasing seq: the list L of 60 R365. -/
def passOrder (tasks : List Task) : List Handle :=
  ((liveHandles tasks 0).foldr insertBySeq []).map fun t => ⟨t.2⟩

/-- Every live task's count decremented (60 R365). -/
def decrementLive (tasks : List Task) : List Task :=
  tasks.map fun t => if t.live then { t with count := t.count - 1 } else t

/-- One task of the pass's list: it fires when it is live with count 0, and is no longer live then
(60 R365). -/
def fireTask (s : State) (h : Handle) : State :=
  match s.sched.tasks[h.index]? with
  | none => s
  | some t =>
    if t.live && t.count == 0 then s.unlessFaulted (runAction {} t.action (s.unschedule h)) else s

/-- `SchedulerPass()` (60 R365). -/
def schedulerPass (s : State) : State :=
  (passOrder s.sched.tasks).foldl fireTask
    { s with sched := { s.sched with tasks := decrementLive s.sched.tasks } }

/-! ## The bus port (00 R12, 20 R71, R72, R83) -/

/-- `mapped(addr)` (00 R8). -/
def State.mapped (s : State) (addr : Word) : Bool :=
  !s.cfg.unmapped.any fun r => decide (r.1 ≤ addr.toNat) && decide (addr.toNat ≤ r.2)

/-- The external device that answers at an address, if any (20 R71, R82). -/
def State.deviceAt (s : State) (addr : Word) : Option Device :=
  s.devices.find? fun d => decide (d.first ≤ addr.toNat) && decide (addr.toNat ≤ d.last)

/-- A bus cycle recorded (20 R72; log 12). -/
def State.logBus (s : State) (c : BusCycle) : State := { s with bus := s.bus ++ [c] }

/-- What the bus makes of an access: a fault with no side effect (20 R83), or the byte answered and the
state after the access. -/
inductive Answer
  | unmapped (f : Fault)
  | done (v : Byte) (s : State)
  deriving DecidableEq, Repr

/-- `MemRead(addr, 1)` (00 R12): RAM answers the byte held, a device a free value, and reacts (20 R71, R73;
log 8). -/
def busRead (s : State) (addr : Word) : Answer :=
  if s.mapped addr then
    match s.deviceAt addr with
    | none => .done (s.memByte addr) (s.logBus (.read addr (s.memByte addr)))
    | some d =>
      .done (Config.busAnswer s.busDraws)
        (runAction { addr := addr, byte := Config.busAnswer s.busDraws } d.onRead
          ({ s with busDraws := s.busDraws + 1 }.logBus (.read addr (Config.busAnswer s.busDraws))))
  else .unmapped (.busUnmapped addr .read)

/-- `MemWrite(addr, 1, v)` (00 R12): RAM holds the byte from now on, a device takes it and reacts (20 R71,
R73; log 8). The byte answered is the byte written and is not used. -/
def busWrite (s : State) (addr : Word) (v : Byte) : Answer :=
  if s.mapped addr then
    match s.deviceAt addr with
    | none => .done v ((s.setMem addr v).logBus (.write addr v))
    | some d => .done v (runAction { addr := addr, byte := v } d.onWrite (s.logBus (.write addr v)))
  else .unmapped (.busUnmapped addr .write)

/-- The one bus access of a cycle (20 R72). -/
inductive Access
  | read (addr : Word)
  | write (addr : Word) (v : Byte)
  deriving DecidableEq, Repr

/-- The access performed. -/
def busAccess (s : State) : Access → Answer
  | .read addr => busRead s addr
  | .write addr v => busWrite s addr v

/-! ## The micro-op queue (10 R49, 40 R135) -/

/-- Micro-ops pushed one after the other; none when a push finds the queue full (40 R135). -/
def enqueue : List MicroOp → State → Option State
  | [], s => some s
  | op :: ops, s =>
    if s.queue.length < s.cfg.q then enqueue ops { s with queue := s.queue ++ [op] } else none

/-- Micro-ops pushed, or QueueOverflow (60 R322). An overflow queues none of them (DEDUCED, log 13). -/
def pushAll (ops : List MicroOp) (s : State) : State :=
  match enqueue ops s with
  | some t => t
  | none => s.raise .queueOverflow

/-- A cycle that touches the bus and then writes: on a bus fault nothing but the fault record changes
(60 R320, R323); when the access's own side effect faults, or a push overflows, no write of the cycle
happens (log 13). `popped` is the queue the cycle runs with. -/
def runCycle (s : State) (popped : List MicroOp) (acc : Access) (eff : Byte → State → State)
    (follow : State → List MicroOp) : State :=
  match busAccess { s with queue := popped } acc with
  | .unmapped f => s.raise f
  | .done v t =>
    if t.fault.isSome then { t with queue := s.queue }
    else
      match enqueue (follow (eff v t)) (eff v t) with
      | some u => u
      | none => s.raise .queueOverflow

/-! ## The frame of a tick (40 R131) -/

/-- The tick's part before the CPU step. -/
def startTick (s : State) : State :=
  if s.cfg.phase = .beforeCpu then schedulerPass s else s

/-- The tick's part after the CPU step; the cycle is counted (40 R130, R131). -/
def endTick (s : State) : State :=
  if s.cfg.phase = .afterCpu ∧ s.fault = none then
    { schedulerPass s with cycles := (schedulerPass s).cycles + 1 }
  else { s with cycles := s.cycles + 1 }

/-- One engine tick around a CPU step (40 R131, R137). -/
def tickWith (cpu : State → State) (s : State) : State :=
  if s.stopped then s
  else endTick (if (startTick s).fault.isSome then startTick s else cpu (startTick s))

/-! ## Vectored entry and return (60 R340 to R346) -/

/-- T2 to T7 of the entry that IRQ, NMI and BRK share (60 R341, R342, 45 R275): the first cycle, PC.hi,
PC.lo and the status pushed (B as given), the vector read, and the end of the service where it is one. -/
def entryCycles (first : MicroOp) (b : Bool) (v : Vector) (service : Bool) : List MicroOp :=
  [first, .pushPcHi, .pushPcLo, .pushStatus b, .vectorLo v, .vectorHi v service]

/-- T2 to T7 of a service sequence (60 R341 to R343). -/
def serviceCycles : ServiceKind → List MicroOp
  | .irq => entryCycles .dummyPc false .irq true
  | .nmi => entryCycles .dummyPc false .nmi true
  | .reset => [.dummyPc, .dummyStack 0, .dummyStack 1, .dummyStack 2, .vectorLo .reset, .resetEnd]

/-- T2 to T6 of the return from an interrupt (45 R274). -/
def returnCycles : List MicroOp :=
  [.dummyPc, .dummyStackPull, .pullPAdvance, .pullLo, .pullHiJump]

/-- The request that a check takes: cleared at the check, before the service begins (40 R132 (b), (c)). -/
def takeRequest : ServiceKind → State → State
  | .irq, s => s
  | .nmi, s => { s with nmiLatch := false }
  | .reset, s => { s with resetPending := false }

/-- `BeginService(kind)`, T1 of a service sequence: the dummy read at PC, then the effects of the table's T1 row,
among which reset clears `nmi_latch`, and T2 to T7 pushed (60 R340 to R343). -/
def beginService (kind : ServiceKind) (s : State) : State :=
  runCycle s s.queue (.read s.pc)
    (fun _ t =>
      { t with
        nmiLatch := if kind = .reset then false else t.nmiLatch
        servicing := true
        svcKind := kind })
    (fun _ => serviceCycles kind)

end Sys2Proof.Machine
end

