-- ==== Sys2Proof/Machine/Flags.lean ====
section
/-!
DEFINITION. The flag byte P (10 R36) and every computation of a result with its flags: arithmetic in both
modes, logic, comparison, bit test, shifts, increments, and the branch and debug conditions.
-/

namespace Sys2Proof.Machine

/-- A flag of P; its bit is fixed (10 R36). -/
inductive Flag
  | c | z | i | d | b | r | v | n
  deriving DecidableEq, Repr

/-- The bit of a flag (10 R36). -/
def Flag.bit : Flag → Nat
  | .c => 0
  | .z => 1
  | .i => 2
  | .d => 3
  | .b => 4
  | .r => 5
  | .v => 6
  | .n => 7

/-- A flag read from the flag byte (00 R11). -/
def getFlag (p : Byte) (f : Flag) : Bool := p.getLsbD f.bit

/-- A flag written into the flag byte, every other bit unchanged (00 R11). -/
def putFlag (p : Byte) (f : Flag) (v : Bool) : Byte :=
  if v then p ||| BitVec.twoPow 8 f.bit else p &&& ~~~ BitVec.twoPow 8 f.bit

/-- `setNZ(v)` (00 R11). -/
def putNZ (p : Byte) (v : Byte) : Byte :=
  putFlag (putFlag p .n v.msb) .z (decide (v = 0#8))

/-- A carry or borrow as a number, 0 or 1. -/
def carryNat (p : Byte) : Nat := if getFlag p .c then 1 else 0

/-- A byte read as a signed number, `signed8` (00 R10). -/
def signed8 (b : Byte) : Int := b.toInt

/-! ## Addition and subtraction (42 R220 to R223): the result A and the new P -/

/-- Binary ADC (42 R220). -/
def adcBinary (a v p : Byte) : Byte × Byte :=
  let sum := a.toNat + v.toNat + carryNat p
  let r : Byte := BitVec.ofNat 8 sum
  (r, putNZ (putFlag (putFlag p .c (decide (255 < sum))) .v (((a ^^^ r) &&& (v ^^^ r)).msb)) r)

/-- The low-nibble step of decimal ADC: AL (42 R221). -/
def adcLow (a v : Byte) (c : Nat) : Nat :=
  let al := a.toNat % 16 + v.toNat % 16 + c
  if 10 ≤ al then (al + 6) % 16 + 16 else al

/-- The high nibble of a byte in place, `b and 0xF0`. -/
def highNibble (b : Byte) : Byte := b &&& 0xF0#8

/-- Decimal ADC (42 R221): N and V from the intermediate, Z from the binary sum, C from the corrected sum. -/
def adcDecimal (a v p : Byte) : Byte × Byte :=
  let c := carryNat p
  let bin : Byte := BitVec.ofNat 8 (a.toNat + v.toNat + c)
  let al := adcLow a v c
  let t := (highNibble a).toNat + (highNibble v).toNat + al
  let ts : Int := signed8 (highNibble a) + signed8 (highNibble v) + al
  let t2 := if 0xA0 ≤ t then t + 0x60 else t
  let p1 := putFlag p .n (t.testBit 7)
  let p2 := putFlag p1 .v (decide (ts < -128) || decide (127 < ts))
  let p3 := putFlag p2 .c (decide (0x100 ≤ t2))
  (BitVec.ofNat 8 t2, putFlag p3 .z (decide (bin = 0#8)))

/-- Binary SBC (42 R222). -/
def sbcBinary (a v p : Byte) : Byte × Byte :=
  let diff : Int := (a.toNat : Int) - v.toNat - (1 - carryNat p)
  let r : Byte := BitVec.ofInt 8 diff
  (r, putNZ (putFlag (putFlag p .c (decide (0 ≤ diff))) .v (((a ^^^ v) &&& (a ^^^ r)).msb)) r)

/-- The low-nibble step of decimal SBC: AL (42 R223). -/
def sbcLow (a v : Byte) (c : Nat) : Int :=
  let al : Int := (a.toNat % 16 : Nat) - (v.toNat % 16 : Nat) + c - 1
  if al < 0 then (al - 6) % 16 - 16 else al

/-- Decimal SBC (42 R223): the corrected difference; the flags are those of binary SBC. -/
def sbcDecimal (a v p : Byte) : Byte × Byte :=
  let t : Int := (highNibble a).toNat - (highNibble v).toNat + sbcLow a v (carryNat p)
  let t2 := if t < 0 then t - 0x60 else t
  (BitVec.ofInt 8 t2, (sbcBinary a v p).2)

/-- ADC: D selects the mode (10 R39). -/
def adcByte (a v p : Byte) : Byte × Byte :=
  if getFlag p .d then adcDecimal a v p else adcBinary a v p

/-- SBC: D selects the mode (10 R39). -/
def sbcByte (a v p : Byte) : Byte × Byte :=
  if getFlag p .d then sbcDecimal a v p else sbcBinary a v p

/-! ## Comparison and bit test (42 R227 to R230): the new P -/

/-- CMP, CPX, CPY of a register value with v (42 R227 to R229). -/
def compareReg (r v p : Byte) : Byte :=
  putNZ (putFlag p .c (decide (v.toNat ≤ r.toNat))) (r - v)

/-- BIT (42 R230). -/
def bitTest (a v p : Byte) : Byte :=
  putFlag (putFlag (putFlag p .z (decide (a &&& v = 0#8))) .n (v.getLsbD 7)) .v (v.getLsbD 6)

/-! ## Shifts, rotates, increments (43 R240 to R249): the result and the new P -/

/-- ASL (43 R240). -/
def aslByte (v p : Byte) : Byte × Byte :=
  (v <<< 1, putNZ (putFlag p .c (v.getLsbD 7)) (v <<< 1))

/-- LSR (43 R241). -/
def lsrByte (v p : Byte) : Byte × Byte :=
  (v >>> 1, putNZ (putFlag p .c (v.getLsbD 0)) (v >>> 1))

/-- ROL (43 R242). -/
def rolByte (v p : Byte) : Byte × Byte :=
  let r : Byte := BitVec.ofNat 8 (v.toNat * 2 + carryNat p)
  (r, putNZ (putFlag p .c (v.getLsbD 7)) r)

/-- ROR (43 R243). -/
def rorByte (v p : Byte) : Byte × Byte :=
  let r : Byte := BitVec.ofNat 8 (v.toNat / 2 + 128 * carryNat p)
  (r, putNZ (putFlag p .c (v.getLsbD 0)) r)

/-- INC, INX, INY (43 R244, R246, R247). -/
def increment (v p : Byte) : Byte × Byte := (v + 1#8, putNZ p (v + 1#8))

/-- DEC, DEX, DEY (43 R245, R248, R249). -/
def decrement (v p : Byte) : Byte × Byte := (v - 1#8, putNZ p (v - 1#8))

/-! ## The status byte on the stack (10 R38) -/

/-- What PHP and BRK push (B = 1, R = 1) and what IRQ and NMI push (B = 0, R = 1) (10 R38). -/
def statusPushed (p : Byte) (b : Bool) : Byte :=
  if b then p ||| 0x30#8 else (p &&& 0xEF#8) ||| 0x20#8

/-! ## Conditions -/

/-- The branch conditions (45 R277 to R284). -/
def Condition.holds (p : Byte) : Condition → Bool
  | .carryClear => !getFlag p .c
  | .carrySet => getFlag p .c
  | .equal => getFlag p .z
  | .minus => getFlag p .n
  | .notEqual => !getFlag p .z
  | .plus => !getFlag p .n
  | .overflowClear => !getFlag p .v
  | .overflowSet => getFlag p .v

/-- The condition of TEST and TRAP (47 R313). -/
def debugCondition (p mask expect : Byte) : Bool := decide (p &&& mask = expect &&& mask)

end Sys2Proof.Machine
end

