-- ==== Sys2Proof/Machine/Operands.lean ====
section
/-!
DEFINITION. Every operand form: the operand and effective address each addressing mode means (30 R101, R102;
20 R76 to R78), the temporaries the cycles compute them with, the bus access of every cycle descriptor
(40 R140), and the cycle sequences of the classes by mode (40 R142 to R153).
-/

namespace Sys2Proof.Machine

/-! ## What a mode's operand means, at a PC that points to the first operand byte (30 R101) -/

/-- The value of an index register. -/
def State.index (s : State) : Index → Byte
  | .x => s.x
  | .y => s.y

/-- The first operand byte (30 R101, b1). -/
def State.operand1 (s : State) : Byte := s.memByte s.pc

/-- The second operand byte (30 R101, b2). -/
def State.operand2 (s : State) : Byte := s.memByte (s.pc + 1#16)

/-- The word of the two operand bytes, `b2:b1` (30 R102). -/
def State.operandWord (s : State) : Word := wordOf s.operand2 s.operand1

/-- The word at a zero-page pointer, its second byte taken from the zero page too (20 R78). -/
def State.zeroPageWord (s : State) (p : Byte) : Word :=
  wordOf (s.memByte (zeroPage (p + 1#8))) (s.memByte (zeroPage p))

/-- The effective address of 30 R101; for IND the jump target with the page wrap of 45 R271; for the modes
without an address, the address of the operand byte. -/
def State.effectiveAddr (s : State) : Sys2Proof.Mode → Word
  | .zeroPage => zeroPage s.operand1
  | .zeroPageX => zeroPage (s.operand1 + s.x)
  | .zeroPageY => zeroPage (s.operand1 + s.y)
  | .absolute => s.operandWord
  | .absoluteX => s.operandWord + s.x.setWidth 16
  | .absoluteY => s.operandWord + s.y.setWidth 16
  | .indirect =>
    wordOf (s.memByte (wordOf s.operand2 (s.operand1 + 1#8))) (s.memByte s.operandWord)
  | .indirectX => s.zeroPageWord (s.operand1 + s.x)
  | .indirectY => s.zeroPageWord s.operand1 + s.y.setWidth 16
  | .implied | .accumulator | .immediate | .relative | .immediate2 => s.pc

/-- The low byte of the base an index is added to crosses the page (40 R155). -/
def carries (lo index : Byte) : Bool := decide (256 ≤ lo.toNat + index.toNat)

/-- Whether the mode's index addition crosses a page (40 R155). -/
def State.crossesPage (s : State) : Sys2Proof.Mode → Bool
  | .absoluteX => carries s.operand1 s.x
  | .absoluteY => carries s.operand1 s.y
  | .indirectY => carries (s.memByte (zeroPage s.operand1)) s.y
  | _ => false

/-- The target of a branch: the signed offset added to the address of the next instruction (30 R101,
45 R276). -/
def State.branchTarget (s : State) : Word := s.pc + 1#16 + signExtend16 s.operand1

/-! ## The bus access of each cycle descriptor -/

/-- The address `hi:lo` of the temporaries. -/
def State.hiLo (s : State) : Word := wordOf s.tmp.hi s.tmp.lo

/-- The byte a class W instruction stores, `g()` (41 R203 to R205). -/
def WriteOp.value (s : State) : WriteOp → Byte
  | .sta => s.a
  | .stx => s.x
  | .sty => s.y

/-- What a class M instruction makes of the byte v: the result and the new P (43 R240 to R245). -/
def ModifyOp.result (v p : Byte) : ModifyOp → Byte × Byte
  | .asl => aslByte v p
  | .lsr => lsrByte v p
  | .rol => rolByte v p
  | .ror => rorByte v p
  | .inc => increment v p
  | .dec => decrement v p

/-- The one bus access of a cycle, computed from the registers and temporaries at its start (40 R140; the
rows of 40 R142 to R153, 44, 45, 47 and 60 R341 to R343). -/
def MicroOp.access (s : State) : MicroOp → Access
  | .implied _ | .accumulator _ | .readImmediate _ => .read s.pc
  | .fetchLo | .fetchHi | .fetchHiIndexed _ | .fetchPtr => .read s.pc
  | .indexZeroPage _ => .read (zeroPage s.tmp.lo)
  | .indexPtr | .pointerLo => .read (zeroPage s.tmp.ptr)
  | .pointerHi | .pointerHiIndexed => .read (zeroPage (s.tmp.ptr + 1#8))
  | .readZeroPage _ | .loadZeroPage => .read (zeroPage s.tmp.lo)
  | .readAbsolute _ | .readSpeculative _ | .correctHi | .loadAbsolute => .read s.hiLo
  | .readCorrected _ => .read (wordOf (s.tmp.hi + 1#8) s.tmp.lo)
  | .writeZeroPage op => .write (zeroPage s.tmp.lo) (op.value s)
  | .writeAbsolute op => .write s.hiLo (op.value s)
  | .writeBackZeroPage => .write (zeroPage s.tmp.lo) s.tmp.data
  | .writeBackAbsolute => .write s.hiLo s.tmp.data
  | .modifyZeroPage op => .write (zeroPage s.tmp.lo) (op.result s.tmp.data s.p).1
  | .modifyAbsolute op => .write s.hiLo (op.result s.tmp.data s.p).1
  | .dummyPc | .dummyPcAdvance => .read s.pc
  | .dummyStack back => .read (stackAddr (s.sp - BitVec.ofNat 8 back.val))
  | .dummyStackPull => .read (stackAddr s.sp)
  | .pushA => .write (stackAddr s.sp) s.a
  | .pushP => .write (stackAddr s.sp) (statusPushed s.p true)
  | .pullA | .pullP | .pullPAdvance | .pullLo | .pullHiJump => .read (stackAddr s.sp)
  | .fetchHiJump | .fetchPointerLo | .fetchPointerHi => .read s.pc
  | .indirectLo => .read (wordOf s.tmp.phi s.tmp.plo)
  | .indirectHiJump => .read (wordOf s.tmp.phi (s.tmp.plo + 1#8))
  | .pushPcHi => .write (stackAddr s.sp) (hiByte s.pc)
  | .pushPcLo => .write (stackAddr s.sp) (loByte s.pc)
  | .pushStatus b => .write (stackAddr s.sp) (statusPushed s.p b)
  | .vectorLo v => .read (vectorAddr v)
  | .vectorHi v _ => .read (vectorAddr v + 1#16)
  | .resetEnd => .read (vectorAddr .reset + 1#16)
  | .branchFetch _ | .branchTake | .branchCorrect => .read s.pc
  | .haltNow | .fetchMask | .testFlags | .trapFlags => .read s.pc

/-! ## The cycle sequences T2 to Tn by class and mode (40 R142 to R153, 45 R276) -/

/-- Class I (40 R142). -/
def impliedCycles (op : ImpliedOp) : List MicroOp := [.implied op]

/-- Class R, IMM (40 R143). -/
def readImmediateCycles (op : ReadOp) : List MicroOp := [.readImmediate op]

/-- Class R, ZP (40 R144). -/
def readZeroPageCycles (op : ReadOp) : List MicroOp := [.fetchLo, .readZeroPage op]

/-- Class R, ABS (40 R144). -/
def readAbsoluteCycles (op : ReadOp) : List MicroOp := [.fetchLo, .fetchHi, .readAbsolute op]

/-- Class R, ZPX and ZPY (40 R145). -/
def readZeroPageIndexedCycles (ix : Index) (op : ReadOp) : List MicroOp :=
  [.fetchLo, .indexZeroPage ix, .readZeroPage op]

/-- Class R, ABX and ABY; T5 is pushed by T4 when the addition carries (40 R146). -/
def readAbsoluteIndexedCycles (ix : Index) (op : ReadOp) : List MicroOp :=
  [.fetchLo, .fetchHiIndexed ix, .readSpeculative op]

/-- Class R, IZX (40 R147). -/
def readIndirectXCycles (op : ReadOp) : List MicroOp :=
  [.fetchPtr, .indexPtr, .pointerLo, .pointerHi, .readAbsolute op]

/-- Class R, IZY; T6 is pushed by T5 when the addition carries (40 R148). -/
def readIndirectYCycles (op : ReadOp) : List MicroOp :=
  [.fetchPtr, .pointerLo, .pointerHiIndexed, .readSpeculative op]

/-- Class W, ZP (40 R149). -/
def writeZeroPageCycles (op : WriteOp) : List MicroOp := [.fetchLo, .writeZeroPage op]

/-- Class W, ZPX and ZPY (40 R149). -/
def writeZeroPageIndexedCycles (ix : Index) (op : WriteOp) : List MicroOp :=
  [.fetchLo, .indexZeroPage ix, .writeZeroPage op]

/-- Class W, ABS (40 R149). -/
def writeAbsoluteCycles (op : WriteOp) : List MicroOp := [.fetchLo, .fetchHi, .writeAbsolute op]

/-- Class W, ABX and ABY (40 R150). -/
def writeAbsoluteIndexedCycles (ix : Index) (op : WriteOp) : List MicroOp :=
  [.fetchLo, .fetchHiIndexed ix, .correctHi, .writeAbsolute op]

/-- Class W, IZX (40 R151). -/
def writeIndirectXCycles (op : WriteOp) : List MicroOp :=
  [.fetchPtr, .indexPtr, .pointerLo, .pointerHi, .writeAbsolute op]

/-- Class W, IZY (40 R151). -/
def writeIndirectYCycles (op : WriteOp) : List MicroOp :=
  [.fetchPtr, .pointerLo, .pointerHiIndexed, .correctHi, .writeAbsolute op]

/-- Class M, ACC (40 R153). -/
def accumulatorCycles (op : ModifyOp) : List MicroOp := [.accumulator op]

/-- Class M, ZP (40 R152). -/
def modifyZeroPageCycles (op : ModifyOp) : List MicroOp :=
  [.fetchLo, .loadZeroPage, .writeBackZeroPage, .modifyZeroPage op]

/-- Class M, ZPX (40 R152). -/
def modifyZeroPageXCycles (op : ModifyOp) : List MicroOp :=
  [.fetchLo, .indexZeroPage .x, .loadZeroPage, .writeBackZeroPage, .modifyZeroPage op]

/-- Class M, ABS (40 R152). -/
def modifyAbsoluteCycles (op : ModifyOp) : List MicroOp :=
  [.fetchLo, .fetchHi, .loadAbsolute, .writeBackAbsolute, .modifyAbsolute op]

/-- Class M, ABX (40 R152). -/
def modifyAbsoluteXCycles (op : ModifyOp) : List MicroOp :=
  [.fetchLo, .fetchHiIndexed .x, .correctHi, .loadAbsolute, .writeBackAbsolute, .modifyAbsolute op]

/-- Class B; T3 is pushed by T2 when the condition holds, T4 by T3 when the page changes (45 R276). -/
def branchCycles (c : Condition) : List MicroOp := [.branchFetch c]

end Sys2Proof.Machine
end

