-- ==== Sys2Proof/Machine/MicroOps.lean ====
section
/-!
DEFINITION. What a micro-op does after its bus access (40 R134, R140): the class functions f, g, h of 40 R141
on the state, the writes of every cycle descriptor, the conditional pushes (40 R136), one tick that runs
the queue's head, and the run of an instruction's cycles to the next quiescent point.
-/

namespace Sys2Proof.Machine

/-! ## The class functions (40 R141) -/

/-- A result and a new P written to A and P. -/
def State.setAP (s : State) (r : Byte × Byte) : State := { s with a := r.1, p := r.2 }

/-- `f(v)` of a class R instruction (41 R200 to R202, 42 R220 to R230). -/
def ReadOp.apply (v : Byte) (s : State) : ReadOp → State
  | .lda => { s with a := v, p := putNZ s.p v }
  | .ldx => { s with x := v, p := putNZ s.p v }
  | .ldy => { s with y := v, p := putNZ s.p v }
  | .adc => s.setAP (adcByte s.a v s.p)
  | .sbc => s.setAP (sbcByte s.a v s.p)
  | .and => { s with a := s.a &&& v, p := putNZ s.p (s.a &&& v) }
  | .ora => { s with a := s.a ||| v, p := putNZ s.p (s.a ||| v) }
  | .eor => { s with a := s.a ^^^ v, p := putNZ s.p (s.a ^^^ v) }
  | .cmp => { s with p := compareReg s.a v s.p }
  | .cpx => { s with p := compareReg s.x v s.p }
  | .cpy => { s with p := compareReg s.y v s.p }
  | .bit => { s with p := bitTest s.a v s.p }

/-- The update of a class I instruction (41 R206 to R211, 43 R246 to R249, 46 R300 to R307). -/
def ImpliedOp.apply (s : State) : ImpliedOp → State
  | .tax => { s with x := s.a, p := putNZ s.p s.a }
  | .tay => { s with y := s.a, p := putNZ s.p s.a }
  | .txa => { s with a := s.x, p := putNZ s.p s.x }
  | .tya => { s with a := s.y, p := putNZ s.p s.y }
  | .tsx => { s with x := s.sp, p := putNZ s.p s.sp }
  | .txs => { s with sp := s.x }
  | .inx => { s with x := (increment s.x s.p).1, p := (increment s.x s.p).2 }
  | .iny => { s with y := (increment s.y s.p).1, p := (increment s.y s.p).2 }
  | .dex => { s with x := (decrement s.x s.p).1, p := (decrement s.x s.p).2 }
  | .dey => { s with y := (decrement s.y s.p).1, p := (decrement s.y s.p).2 }
  | .clc => { s with p := putFlag s.p .c false }
  | .sec => { s with p := putFlag s.p .c true }
  | .cli => { s with p := putFlag s.p .i false }
  | .sei => { s with p := putFlag s.p .i true }
  | .cld => { s with p := putFlag s.p .d false }
  | .sed => { s with p := putFlag s.p .d true }
  | .clv => { s with p := putFlag s.p .v false }
  | .nop => s

/-! ## The writes of each cycle descriptor, after its access answered v -/

/-- PC advanced by one, wrapping at 16 bits (10 R35). -/
def State.advance (s : State) : State := { s with pc := s.pc + 1#16 }

/-- The index addition to the low byte with its carry: `carry <- (lo + index >= 256); lo <- lo +8 index`
(40 R146, R148, R150 to R152). -/
def State.addIndex (s : State) (lo index : Byte) : State :=
  { s with tmp := { s.tmp with carry := carries lo index, lo := lo + index } }

/-- The high byte latched. -/
def State.latchHi (s : State) (v : Byte) : State := { s with tmp := { s.tmp with hi := v } }

/-- The low byte latched. -/
def State.latchLo (s : State) (v : Byte) : State := { s with tmp := { s.tmp with lo := v } }

/-- `S <- S -8 1`, the second half of a push (00 R13). -/
def State.decS (s : State) : State := { s with sp := s.sp - 1#8 }

/-- `S <- S +8 1`, the first half of a pull (00 R13). -/
def State.incS (s : State) : State := { s with sp := s.sp + 1#8 }

/-- `PC <- hi:lo`, with hi just read. -/
def State.jumpHi (s : State) (hi : Byte) : State :=
  { s.latchHi hi with pc := wordOf hi s.tmp.lo }

/-- The taken branch's T3: `newpc <- PC +16 sext_16(off); carry <- (newpc.hi ≠ PC.hi);
PC <- PC.hi:newpc.lo` (45 R276). -/
def State.takeBranch (s : State) : State :=
  let target := s.pc + signExtend16 s.tmp.off
  { s with
    pc := wordOf (hiByte s.pc) (loByte target)
    tmp := { s.tmp with newpc := target, carry := decide (hiByte target ≠ hiByte s.pc) } }

/-- The register file reinitialised by reset, P.I forced to 1 (60 R343, 10 R53). -/
def State.resetRegisters (s : State) : State :=
  { s with
    a := s.cfg.resetA
    x := s.cfg.resetX
    y := s.cfg.resetY
    sp := s.cfg.resetS
    p := putFlag s.cfg.resetP .i true }

/-- The register, flag and temporary writes of a cycle, made after its access answered `v` (40 R140). -/
def MicroOp.effect (v : Byte) (s : State) : MicroOp → State
  | .implied op => op.apply s
  | .accumulator op => s.setAP (op.result s.a s.p)
  | .readImmediate op => op.apply v s.advance
  | .fetchLo => (s.latchLo v).advance
  | .fetchHi => (s.latchHi v).advance
  | .fetchHiIndexed ix => ((s.latchHi v).advance).addIndex s.tmp.lo (s.index ix)
  | .fetchPtr => { s.advance with tmp := { s.tmp with ptr := v } }
  | .indexZeroPage ix => s.latchLo (s.tmp.lo + s.index ix)
  | .indexPtr => { s with tmp := { s.tmp with ptr := s.tmp.ptr + s.x } }
  | .pointerLo => s.latchLo v
  | .pointerHi => s.latchHi v
  | .pointerHiIndexed => (s.latchHi v).addIndex s.tmp.lo s.y
  | .readZeroPage op | .readAbsolute op | .readCorrected op => op.apply v s
  | .readSpeculative op => if s.tmp.carry then s else op.apply v s
  | .correctHi => if s.tmp.carry then s.latchHi (s.tmp.hi + 1#8) else s
  | .writeZeroPage _ | .writeAbsolute _ | .writeBackZeroPage | .writeBackAbsolute => s
  | .loadZeroPage | .loadAbsolute => { s with tmp := { s.tmp with data := v } }
  | .modifyZeroPage op | .modifyAbsolute op => { s with p := (op.result s.tmp.data s.p).2 }
  | .dummyPc | .dummyStack _ => s
  | .dummyPcAdvance => s.advance
  | .dummyStackPull => s.incS
  | .pushA | .pushP | .pushPcHi | .pushPcLo => s.decS
  | .pushStatus _ => { s.decS with p := putFlag s.p .i true }
  | .pullA => { s with a := v, p := putNZ s.p v }
  | .pullP => { s with p := v }
  | .pullPAdvance => { s.incS with p := v }
  | .pullLo => (s.latchLo v).incS
  | .pullHiJump | .fetchHiJump | .indirectHiJump => s.jumpHi v
  | .fetchPointerLo => { s.advance with tmp := { s.tmp with plo := v } }
  | .fetchPointerHi => { s.advance with tmp := { s.tmp with phi := v } }
  | .indirectLo | .vectorLo _ => s.latchLo v
  | .vectorHi _ ends => { s.jumpHi v with servicing := if ends then false else s.servicing }
  | .resetEnd => { (s.jumpHi v).resetRegisters with servicing := false }
  | .branchFetch _ => { s.advance with tmp := { s.tmp with off := v } }
  | .branchTake => s.takeBranch
  | .branchCorrect => { s with pc := s.tmp.newpc }
  | .haltNow => s.halt .halted
  | .fetchMask => { s.advance with tmp := { s.tmp with mask := v } }
  | .testFlags =>
    if debugCondition s.p s.tmp.mask v then s.advance else s.advance.halt .testMismatch
  | .trapFlags => if debugCondition s.p s.tmp.mask v then s.advance.halt .trapped else s.advance

/-- The conditional cycle that a cycle pushes, decided on the state after its writes (40 R136, R146, R148,
45 R276). -/
def MicroOp.follow (s : State) : MicroOp → List MicroOp
  | .readSpeculative op => if s.tmp.carry then [.readCorrected op] else []
  | .branchFetch c => if c.holds s.p then [.branchTake] else []
  | .branchTake => if s.tmp.carry then [.branchCorrect] else []
  | _ => []

/-! ## Running the queue -/

/-- The CPU step with a micro-op at the queue's head: pop it and run it (40 R134). -/
def runMicroOp (op : MicroOp) (rest : List MicroOp) (s : State) : State :=
  runCycle s rest (op.access s) (fun v t => op.effect v t) (fun t => op.follow t)

/-- The CPU step of a tick that is not quiescent: the head popped and run; popping an empty queue is
QueueUnderflow (40 R134, R135, 60 R322). -/
def cpuMicroOp (s : State) : State :=
  match s.queue with
  | op :: rest => runMicroOp op rest s
  | [] => s.raise .queueUnderflow

/-- One engine tick that is not quiescent (40 R131, R134). -/
def microTick (s : State) : State := tickWith cpuMicroOp s

/-- Ticks until the queue is empty or the engine has stopped, at most `n`. -/
def drain : Nat → State → State
  | 0, s => s
  | n + 1, s => if s.queue.isEmpty || s.stopped then s else drain n (microTick s)

/-- Ticks to the end of what is queued. Three per queued micro-op are enough: a branch's T2 is the one
cycle that leads to two conditional cycles (40 R136). -/
def drainAll (s : State) : State := drain (3 * s.queue.length) s

/-- An instruction whose opcode has just been fetched in T1: T2 to Tn pushed, T1's tick ended, and every
cycle run, each in a tick of its own (40 R131, R133, R134, R138). -/
def runInstr (cycles : List MicroOp) (s : State) : Host.Outcome State Fault Refusal :=
  .next (drainAll (endTick (pushAll cycles s)))

end Sys2Proof.Machine
end

