-- ==== Sys2Proof/Machine/ArithLogic.lean ====
section
/-!
DEFINITION. The meanings of 42_arith_logic.md: arithmetic, logic, compare and bit test. Each instruction has its cycle sequence T2 to Tn and its meaning, the run
of those cycles after the opcode fetch of T1.
-/

namespace Sys2Proof.Machine

/-- ADC IMM: T2 to Tn (40 R143). -/
def cyclesAdcImm : List MicroOp := readImmediateCycles .adc

/-- ADC IMM (42 R220). -/
def execAdcImm (s : State) : Host.Outcome State Fault Refusal := runInstr cyclesAdcImm s

/-- ADC ZP: T2 to Tn (40 R144). -/
def cyclesAdcZp : List MicroOp := readZeroPageCycles .adc

/-- ADC ZP (42 R220). -/
def execAdcZp (s : State) : Host.Outcome State Fault Refusal := runInstr cyclesAdcZp s

/-- ADC ZPX: T2 to Tn (40 R145). -/
def cyclesAdcZpx : List MicroOp := readZeroPageIndexedCycles .x .adc

/-- ADC ZPX (42 R220). -/
def execAdcZpx (s : State) : Host.Outcome State Fault Refusal := runInstr cyclesAdcZpx s

/-- ADC ABS: T2 to Tn (40 R144). -/
def cyclesAdcAbs : List MicroOp := readAbsoluteCycles .adc

/-- ADC ABS (42 R220). -/
def execAdcAbs (s : State) : Host.Outcome State Fault Refusal := runInstr cyclesAdcAbs s

/-- ADC ABX: T2 to Tn (40 R146). -/
def cyclesAdcAbx : List MicroOp := readAbsoluteIndexedCycles .x .adc

/-- ADC ABX (42 R220). -/
def execAdcAbx (s : State) : Host.Outcome State Fault Refusal := runInstr cyclesAdcAbx s

/-- ADC ABY: T2 to Tn (40 R146). -/
def cyclesAdcAby : List MicroOp := readAbsoluteIndexedCycles .y .adc

/-- ADC ABY (42 R220). -/
def execAdcAby (s : State) : Host.Outcome State Fault Refusal := runInstr cyclesAdcAby s

/-- ADC IZX: T2 to Tn (40 R147). -/
def cyclesAdcIzx : List MicroOp := readIndirectXCycles .adc

/-- ADC IZX (42 R220). -/
def execAdcIzx (s : State) : Host.Outcome State Fault Refusal := runInstr cyclesAdcIzx s

/-- ADC IZY: T2 to Tn (40 R148). -/
def cyclesAdcIzy : List MicroOp := readIndirectYCycles .adc

/-- ADC IZY (42 R220). -/
def execAdcIzy (s : State) : Host.Outcome State Fault Refusal := runInstr cyclesAdcIzy s

/-- SBC IMM: T2 to Tn (40 R143). -/
def cyclesSbcImm : List MicroOp := readImmediateCycles .sbc

/-- SBC IMM (42 R222). -/
def execSbcImm (s : State) : Host.Outcome State Fault Refusal := runInstr cyclesSbcImm s

/-- SBC ZP: T2 to Tn (40 R144). -/
def cyclesSbcZp : List MicroOp := readZeroPageCycles .sbc

/-- SBC ZP (42 R222). -/
def execSbcZp (s : State) : Host.Outcome State Fault Refusal := runInstr cyclesSbcZp s

/-- SBC ZPX: T2 to Tn (40 R145). -/
def cyclesSbcZpx : List MicroOp := readZeroPageIndexedCycles .x .sbc

/-- SBC ZPX (42 R222). -/
def execSbcZpx (s : State) : Host.Outcome State Fault Refusal := runInstr cyclesSbcZpx s

/-- SBC ABS: T2 to Tn (40 R144). -/
def cyclesSbcAbs : List MicroOp := readAbsoluteCycles .sbc

/-- SBC ABS (42 R222). -/
def execSbcAbs (s : State) : Host.Outcome State Fault Refusal := runInstr cyclesSbcAbs s

/-- SBC ABX: T2 to Tn (40 R146). -/
def cyclesSbcAbx : List MicroOp := readAbsoluteIndexedCycles .x .sbc

/-- SBC ABX (42 R222). -/
def execSbcAbx (s : State) : Host.Outcome State Fault Refusal := runInstr cyclesSbcAbx s

/-- SBC ABY: T2 to Tn (40 R146). -/
def cyclesSbcAby : List MicroOp := readAbsoluteIndexedCycles .y .sbc

/-- SBC ABY (42 R222). -/
def execSbcAby (s : State) : Host.Outcome State Fault Refusal := runInstr cyclesSbcAby s

/-- SBC IZX: T2 to Tn (40 R147). -/
def cyclesSbcIzx : List MicroOp := readIndirectXCycles .sbc

/-- SBC IZX (42 R222). -/
def execSbcIzx (s : State) : Host.Outcome State Fault Refusal := runInstr cyclesSbcIzx s

/-- SBC IZY: T2 to Tn (40 R148). -/
def cyclesSbcIzy : List MicroOp := readIndirectYCycles .sbc

/-- SBC IZY (42 R222). -/
def execSbcIzy (s : State) : Host.Outcome State Fault Refusal := runInstr cyclesSbcIzy s

/-- AND IMM: T2 to Tn (40 R143). -/
def cyclesAndImm : List MicroOp := readImmediateCycles .and

/-- AND IMM (42 R224). -/
def execAndImm (s : State) : Host.Outcome State Fault Refusal := runInstr cyclesAndImm s

/-- AND ZP: T2 to Tn (40 R144). -/
def cyclesAndZp : List MicroOp := readZeroPageCycles .and

/-- AND ZP (42 R224). -/
def execAndZp (s : State) : Host.Outcome State Fault Refusal := runInstr cyclesAndZp s

/-- AND ZPX: T2 to Tn (40 R145). -/
def cyclesAndZpx : List MicroOp := readZeroPageIndexedCycles .x .and

/-- AND ZPX (42 R224). -/
def execAndZpx (s : State) : Host.Outcome State Fault Refusal := runInstr cyclesAndZpx s

/-- AND ABS: T2 to Tn (40 R144). -/
def cyclesAndAbs : List MicroOp := readAbsoluteCycles .and

/-- AND ABS (42 R224). -/
def execAndAbs (s : State) : Host.Outcome State Fault Refusal := runInstr cyclesAndAbs s

/-- AND ABX: T2 to Tn (40 R146). -/
def cyclesAndAbx : List MicroOp := readAbsoluteIndexedCycles .x .and

/-- AND ABX (42 R224). -/
def execAndAbx (s : State) : Host.Outcome State Fault Refusal := runInstr cyclesAndAbx s

/-- AND ABY: T2 to Tn (40 R146). -/
def cyclesAndAby : List MicroOp := readAbsoluteIndexedCycles .y .and

/-- AND ABY (42 R224). -/
def execAndAby (s : State) : Host.Outcome State Fault Refusal := runInstr cyclesAndAby s

/-- AND IZX: T2 to Tn (40 R147). -/
def cyclesAndIzx : List MicroOp := readIndirectXCycles .and

/-- AND IZX (42 R224). -/
def execAndIzx (s : State) : Host.Outcome State Fault Refusal := runInstr cyclesAndIzx s

/-- AND IZY: T2 to Tn (40 R148). -/
def cyclesAndIzy : List MicroOp := readIndirectYCycles .and

/-- AND IZY (42 R224). -/
def execAndIzy (s : State) : Host.Outcome State Fault Refusal := runInstr cyclesAndIzy s

/-- ORA IMM: T2 to Tn (40 R143). -/
def cyclesOraImm : List MicroOp := readImmediateCycles .ora

/-- ORA IMM (42 R225). -/
def execOraImm (s : State) : Host.Outcome State Fault Refusal := runInstr cyclesOraImm s

/-- ORA ZP: T2 to Tn (40 R144). -/
def cyclesOraZp : List MicroOp := readZeroPageCycles .ora

/-- ORA ZP (42 R225). -/
def execOraZp (s : State) : Host.Outcome State Fault Refusal := runInstr cyclesOraZp s

/-- ORA ZPX: T2 to Tn (40 R145). -/
def cyclesOraZpx : List MicroOp := readZeroPageIndexedCycles .x .ora

/-- ORA ZPX (42 R225). -/
def execOraZpx (s : State) : Host.Outcome State Fault Refusal := runInstr cyclesOraZpx s

/-- ORA ABS: T2 to Tn (40 R144). -/
def cyclesOraAbs : List MicroOp := readAbsoluteCycles .ora

/-- ORA ABS (42 R225). -/
def execOraAbs (s : State) : Host.Outcome State Fault Refusal := runInstr cyclesOraAbs s

/-- ORA ABX: T2 to Tn (40 R146). -/
def cyclesOraAbx : List MicroOp := readAbsoluteIndexedCycles .x .ora

/-- ORA ABX (42 R225). -/
def execOraAbx (s : State) : Host.Outcome State Fault Refusal := runInstr cyclesOraAbx s

/-- ORA ABY: T2 to Tn (40 R146). -/
def cyclesOraAby : List MicroOp := readAbsoluteIndexedCycles .y .ora

/-- ORA ABY (42 R225). -/
def execOraAby (s : State) : Host.Outcome State Fault Refusal := runInstr cyclesOraAby s

/-- ORA IZX: T2 to Tn (40 R147). -/
def cyclesOraIzx : List MicroOp := readIndirectXCycles .ora

/-- ORA IZX (42 R225). -/
def execOraIzx (s : State) : Host.Outcome State Fault Refusal := runInstr cyclesOraIzx s

/-- ORA IZY: T2 to Tn (40 R148). -/
def cyclesOraIzy : List MicroOp := readIndirectYCycles .ora

/-- ORA IZY (42 R225). -/
def execOraIzy (s : State) : Host.Outcome State Fault Refusal := runInstr cyclesOraIzy s

/-- EOR IMM: T2 to Tn (40 R143). -/
def cyclesEorImm : List MicroOp := readImmediateCycles .eor

/-- EOR IMM (42 R226). -/
def execEorImm (s : State) : Host.Outcome State Fault Refusal := runInstr cyclesEorImm s

/-- EOR ZP: T2 to Tn (40 R144). -/
def cyclesEorZp : List MicroOp := readZeroPageCycles .eor

/-- EOR ZP (42 R226). -/
def execEorZp (s : State) : Host.Outcome State Fault Refusal := runInstr cyclesEorZp s

/-- EOR ZPX: T2 to Tn (40 R145). -/
def cyclesEorZpx : List MicroOp := readZeroPageIndexedCycles .x .eor

/-- EOR ZPX (42 R226). -/
def execEorZpx (s : State) : Host.Outcome State Fault Refusal := runInstr cyclesEorZpx s

/-- EOR ABS: T2 to Tn (40 R144). -/
def cyclesEorAbs : List MicroOp := readAbsoluteCycles .eor

/-- EOR ABS (42 R226). -/
def execEorAbs (s : State) : Host.Outcome State Fault Refusal := runInstr cyclesEorAbs s

/-- EOR ABX: T2 to Tn (40 R146). -/
def cyclesEorAbx : List MicroOp := readAbsoluteIndexedCycles .x .eor

/-- EOR ABX (42 R226). -/
def execEorAbx (s : State) : Host.Outcome State Fault Refusal := runInstr cyclesEorAbx s

/-- EOR ABY: T2 to Tn (40 R146). -/
def cyclesEorAby : List MicroOp := readAbsoluteIndexedCycles .y .eor

/-- EOR ABY (42 R226). -/
def execEorAby (s : State) : Host.Outcome State Fault Refusal := runInstr cyclesEorAby s

/-- EOR IZX: T2 to Tn (40 R147). -/
def cyclesEorIzx : List MicroOp := readIndirectXCycles .eor

/-- EOR IZX (42 R226). -/
def execEorIzx (s : State) : Host.Outcome State Fault Refusal := runInstr cyclesEorIzx s

/-- EOR IZY: T2 to Tn (40 R148). -/
def cyclesEorIzy : List MicroOp := readIndirectYCycles .eor

/-- EOR IZY (42 R226). -/
def execEorIzy (s : State) : Host.Outcome State Fault Refusal := runInstr cyclesEorIzy s

/-- CMP IMM: T2 to Tn (40 R143). -/
def cyclesCmpImm : List MicroOp := readImmediateCycles .cmp

/-- CMP IMM (42 R227). -/
def execCmpImm (s : State) : Host.Outcome State Fault Refusal := runInstr cyclesCmpImm s

/-- CMP ZP: T2 to Tn (40 R144). -/
def cyclesCmpZp : List MicroOp := readZeroPageCycles .cmp

/-- CMP ZP (42 R227). -/
def execCmpZp (s : State) : Host.Outcome State Fault Refusal := runInstr cyclesCmpZp s

/-- CMP ZPX: T2 to Tn (40 R145). -/
def cyclesCmpZpx : List MicroOp := readZeroPageIndexedCycles .x .cmp

/-- CMP ZPX (42 R227). -/
def execCmpZpx (s : State) : Host.Outcome State Fault Refusal := runInstr cyclesCmpZpx s

/-- CMP ABS: T2 to Tn (40 R144). -/
def cyclesCmpAbs : List MicroOp := readAbsoluteCycles .cmp

/-- CMP ABS (42 R227). -/
def execCmpAbs (s : State) : Host.Outcome State Fault Refusal := runInstr cyclesCmpAbs s

/-- CMP ABX: T2 to Tn (40 R146). -/
def cyclesCmpAbx : List MicroOp := readAbsoluteIndexedCycles .x .cmp

/-- CMP ABX (42 R227). -/
def execCmpAbx (s : State) : Host.Outcome State Fault Refusal := runInstr cyclesCmpAbx s

/-- CMP ABY: T2 to Tn (40 R146). -/
def cyclesCmpAby : List MicroOp := readAbsoluteIndexedCycles .y .cmp

/-- CMP ABY (42 R227). -/
def execCmpAby (s : State) : Host.Outcome State Fault Refusal := runInstr cyclesCmpAby s

/-- CMP IZX: T2 to Tn (40 R147). -/
def cyclesCmpIzx : List MicroOp := readIndirectXCycles .cmp

/-- CMP IZX (42 R227). -/
def execCmpIzx (s : State) : Host.Outcome State Fault Refusal := runInstr cyclesCmpIzx s

/-- CMP IZY: T2 to Tn (40 R148). -/
def cyclesCmpIzy : List MicroOp := readIndirectYCycles .cmp

/-- CMP IZY (42 R227). -/
def execCmpIzy (s : State) : Host.Outcome State Fault Refusal := runInstr cyclesCmpIzy s

/-- CPX IMM: T2 to Tn (40 R143). -/
def cyclesCpxImm : List MicroOp := readImmediateCycles .cpx

/-- CPX IMM (42 R228). -/
def execCpxImm (s : State) : Host.Outcome State Fault Refusal := runInstr cyclesCpxImm s

/-- CPX ZP: T2 to Tn (40 R144). -/
def cyclesCpxZp : List MicroOp := readZeroPageCycles .cpx

/-- CPX ZP (42 R228). -/
def execCpxZp (s : State) : Host.Outcome State Fault Refusal := runInstr cyclesCpxZp s

/-- CPX ABS: T2 to Tn (40 R144). -/
def cyclesCpxAbs : List MicroOp := readAbsoluteCycles .cpx

/-- CPX ABS (42 R228). -/
def execCpxAbs (s : State) : Host.Outcome State Fault Refusal := runInstr cyclesCpxAbs s

/-- CPY IMM: T2 to Tn (40 R143). -/
def cyclesCpyImm : List MicroOp := readImmediateCycles .cpy

/-- CPY IMM (42 R229). -/
def execCpyImm (s : State) : Host.Outcome State Fault Refusal := runInstr cyclesCpyImm s

/-- CPY ZP: T2 to Tn (40 R144). -/
def cyclesCpyZp : List MicroOp := readZeroPageCycles .cpy

/-- CPY ZP (42 R229). -/
def execCpyZp (s : State) : Host.Outcome State Fault Refusal := runInstr cyclesCpyZp s

/-- CPY ABS: T2 to Tn (40 R144). -/
def cyclesCpyAbs : List MicroOp := readAbsoluteCycles .cpy

/-- CPY ABS (42 R229). -/
def execCpyAbs (s : State) : Host.Outcome State Fault Refusal := runInstr cyclesCpyAbs s

/-- BIT ZP: T2 to Tn (40 R144). -/
def cyclesBitZp : List MicroOp := readZeroPageCycles .bit

/-- BIT ZP (42 R230). -/
def execBitZp (s : State) : Host.Outcome State Fault Refusal := runInstr cyclesBitZp s

/-- BIT ABS: T2 to Tn (40 R144). -/
def cyclesBitAbs : List MicroOp := readAbsoluteCycles .bit

/-- BIT ABS (42 R230). -/
def execBitAbs (s : State) : Host.Outcome State Fault Refusal := runInstr cyclesBitAbs s

end Sys2Proof.Machine
end

