-- ==== Sys2Proof/Machine/ControlFlow.lean ====
section
/-!
DEFINITION. The meanings of 45_control_flow.md: jumps, subroutines, returns, BRK and branches. Each instruction has its cycle sequence T2 to Tn and its meaning, the run
of those cycles after the opcode fetch of T1.
-/

namespace Sys2Proof.Machine

/-- JMP ABS: T2 to Tn (45 R270). -/
def cyclesJmpAbs : List MicroOp := [.fetchLo, .fetchHiJump]

/-- JMP ABS (45 R270). -/
def execJmpAbs (s : State) : Host.Outcome State Fault Refusal := runInstr cyclesJmpAbs s

/-- JMP IND: T2 to Tn (45 R271). -/
def cyclesJmpInd : List MicroOp := [.fetchPointerLo, .fetchPointerHi, .indirectLo, .indirectHiJump]

/-- JMP IND (45 R271). -/
def execJmpInd (s : State) : Host.Outcome State Fault Refusal := runInstr cyclesJmpInd s

/-- JSR ABS: T2 to Tn (45 R272). -/
def cyclesJsr : List MicroOp := [.fetchLo, .dummyStack 0, .pushPcHi, .pushPcLo, .fetchHiJump]

/-- JSR ABS (45 R272). -/
def execJsr (s : State) : Host.Outcome State Fault Refusal := runInstr cyclesJsr s

/-- RTS IMP: T2 to Tn (45 R273). -/
def cyclesRts : List MicroOp := [.dummyPc, .dummyStackPull, .pullLo, .pullHiJump, .dummyPcAdvance]

/-- RTS IMP (45 R273). -/
def execRts (s : State) : Host.Outcome State Fault Refusal := runInstr cyclesRts s

/-- RTI IMP: T2 to Tn (45 R274). -/
def cyclesRti : List MicroOp := returnCycles

/-- RTI IMP (45 R274). -/
def execRti (s : State) : Host.Outcome State Fault Refusal := runInstr cyclesRti s

/-- BRK IMP: T2 to Tn (45 R275). -/
def cyclesBrk : List MicroOp := entryCycles .dummyPcAdvance true .irq false

/-- BRK IMP (45 R275). -/
def execBrk (s : State) : Host.Outcome State Fault Refusal := runInstr cyclesBrk s

/-- BCC REL: T2 to Tn (45 R276). -/
def cyclesBcc : List MicroOp := branchCycles .carryClear

/-- BCC REL (45 R277). -/
def execBcc (s : State) : Host.Outcome State Fault Refusal := runInstr cyclesBcc s

/-- BCS REL: T2 to Tn (45 R276). -/
def cyclesBcs : List MicroOp := branchCycles .carrySet

/-- BCS REL (45 R278). -/
def execBcs (s : State) : Host.Outcome State Fault Refusal := runInstr cyclesBcs s

/-- BEQ REL: T2 to Tn (45 R276). -/
def cyclesBeq : List MicroOp := branchCycles .equal

/-- BEQ REL (45 R279). -/
def execBeq (s : State) : Host.Outcome State Fault Refusal := runInstr cyclesBeq s

/-- BMI REL: T2 to Tn (45 R276). -/
def cyclesBmi : List MicroOp := branchCycles .minus

/-- BMI REL (45 R280). -/
def execBmi (s : State) : Host.Outcome State Fault Refusal := runInstr cyclesBmi s

/-- BNE REL: T2 to Tn (45 R276). -/
def cyclesBne : List MicroOp := branchCycles .notEqual

/-- BNE REL (45 R281). -/
def execBne (s : State) : Host.Outcome State Fault Refusal := runInstr cyclesBne s

/-- BPL REL: T2 to Tn (45 R276). -/
def cyclesBpl : List MicroOp := branchCycles .plus

/-- BPL REL (45 R282). -/
def execBpl (s : State) : Host.Outcome State Fault Refusal := runInstr cyclesBpl s

/-- BVC REL: T2 to Tn (45 R276). -/
def cyclesBvc : List MicroOp := branchCycles .overflowClear

/-- BVC REL (45 R283). -/
def execBvc (s : State) : Host.Outcome State Fault Refusal := runInstr cyclesBvc s

/-- BVS REL: T2 to Tn (45 R276). -/
def cyclesBvs : List MicroOp := branchCycles .overflowSet

/-- BVS REL (45 R284). -/
def execBvs (s : State) : Host.Outcome State Fault Refusal := runInstr cyclesBvs s

end Sys2Proof.Machine
end

