-- ==== Sys2Proof/Machine/DebugExt.lean ====
section
/-!
DEFINITION. The meanings of 47_debug_ext.md: the debug and test-harness extensions. Each instruction has its cycle sequence T2 to Tn and its meaning, the run
of those cycles after the opcode fetch of T1.
-/

namespace Sys2Proof.Machine

/-- HALT IMP: T2 to Tn (47 R310). -/
def cyclesHalt : List MicroOp := [.haltNow]

/-- HALT IMP (47 R310). -/
def execHalt (s : State) : Host.Outcome State Fault Refusal := runInstr cyclesHalt s

/-- TEST IMM2: T2 to Tn (47 R311). -/
def cyclesTest : List MicroOp := [.fetchMask, .testFlags]

/-- TEST IMM2 (47 R311). -/
def execTest (s : State) : Host.Outcome State Fault Refusal := runInstr cyclesTest s

/-- TRAP IMM2: T2 to Tn (47 R312). -/
def cyclesTrap : List MicroOp := [.fetchMask, .trapFlags]

/-- TRAP IMM2 (47 R312). -/
def execTrap (s : State) : Host.Outcome State Fault Refusal := runInstr cyclesTrap s

end Sys2Proof.Machine
end

