-- ==== Sys2Proof/Machine/FlagsNop.lean ====
section
/-!
DEFINITION. The meanings of 46_flags_nop.md: flag instructions and NOP. Each instruction has its cycle sequence T2 to Tn and its meaning, the run
of those cycles after the opcode fetch of T1.
-/

namespace Sys2Proof.Machine

/-- CLC IMP: T2 to Tn (40 R142). -/
def cyclesClc : List MicroOp := impliedCycles .clc

/-- CLC IMP (46 R300). -/
def execClc (s : State) : Host.Outcome State Fault Refusal := runInstr cyclesClc s

/-- SEC IMP: T2 to Tn (40 R142). -/
def cyclesSec : List MicroOp := impliedCycles .sec

/-- SEC IMP (46 R301). -/
def execSec (s : State) : Host.Outcome State Fault Refusal := runInstr cyclesSec s

/-- CLI IMP: T2 to Tn (40 R142). -/
def cyclesCli : List MicroOp := impliedCycles .cli

/-- CLI IMP (46 R302). -/
def execCli (s : State) : Host.Outcome State Fault Refusal := runInstr cyclesCli s

/-- SEI IMP: T2 to Tn (40 R142). -/
def cyclesSei : List MicroOp := impliedCycles .sei

/-- SEI IMP (46 R303). -/
def execSei (s : State) : Host.Outcome State Fault Refusal := runInstr cyclesSei s

/-- CLD IMP: T2 to Tn (40 R142). -/
def cyclesCld : List MicroOp := impliedCycles .cld

/-- CLD IMP (46 R304). -/
def execCld (s : State) : Host.Outcome State Fault Refusal := runInstr cyclesCld s

/-- SED IMP: T2 to Tn (40 R142). -/
def cyclesSed : List MicroOp := impliedCycles .sed

/-- SED IMP (46 R305). -/
def execSed (s : State) : Host.Outcome State Fault Refusal := runInstr cyclesSed s

/-- CLV IMP: T2 to Tn (40 R142). -/
def cyclesClv : List MicroOp := impliedCycles .clv

/-- CLV IMP (46 R306). -/
def execClv (s : State) : Host.Outcome State Fault Refusal := runInstr cyclesClv s

/-- NOP IMP: T2 to Tn (40 R142). -/
def cyclesNop : List MicroOp := impliedCycles .nop

/-- NOP IMP (46 R307). -/
def execNop (s : State) : Host.Outcome State Fault Refusal := runInstr cyclesNop s

end Sys2Proof.Machine
end

