-- ==== Sys2Proof/Machine/LoadStoreTransfer.lean ====
section
/-!
DEFINITION. The meanings of 41_load_store_transfer.md: loads, stores and register transfers. Each instruction has its cycle sequence T2 to Tn and its meaning, the run
of those cycles after the opcode fetch of T1.
-/

namespace Sys2Proof.Machine

/-- LDA IMM: T2 to Tn (40 R143). -/
def cyclesLdaImm : List MicroOp := readImmediateCycles .lda

/-- LDA IMM (41 R200). -/
def execLdaImm (s : State) : Host.Outcome State Fault Refusal := runInstr cyclesLdaImm s

/-- LDA ZP: T2 to Tn (40 R144). -/
def cyclesLdaZp : List MicroOp := readZeroPageCycles .lda

/-- LDA ZP (41 R200). -/
def execLdaZp (s : State) : Host.Outcome State Fault Refusal := runInstr cyclesLdaZp s

/-- LDA ZPX: T2 to Tn (40 R145). -/
def cyclesLdaZpx : List MicroOp := readZeroPageIndexedCycles .x .lda

/-- LDA ZPX (41 R200). -/
def execLdaZpx (s : State) : Host.Outcome State Fault Refusal := runInstr cyclesLdaZpx s

/-- LDA ABS: T2 to Tn (40 R144). -/
def cyclesLdaAbs : List MicroOp := readAbsoluteCycles .lda

/-- LDA ABS (41 R200). -/
def execLdaAbs (s : State) : Host.Outcome State Fault Refusal := runInstr cyclesLdaAbs s

/-- LDA ABX: T2 to Tn (40 R146). -/
def cyclesLdaAbx : List MicroOp := readAbsoluteIndexedCycles .x .lda

/-- LDA ABX (41 R200). -/
def execLdaAbx (s : State) : Host.Outcome State Fault Refusal := runInstr cyclesLdaAbx s

/-- LDA ABY: T2 to Tn (40 R146). -/
def cyclesLdaAby : List MicroOp := readAbsoluteIndexedCycles .y .lda

/-- LDA ABY (41 R200). -/
def execLdaAby (s : State) : Host.Outcome State Fault Refusal := runInstr cyclesLdaAby s

/-- LDA IZX: T2 to Tn (40 R147). -/
def cyclesLdaIzx : List MicroOp := readIndirectXCycles .lda

/-- LDA IZX (41 R200). -/
def execLdaIzx (s : State) : Host.Outcome State Fault Refusal := runInstr cyclesLdaIzx s

/-- LDA IZY: T2 to Tn (40 R148). -/
def cyclesLdaIzy : List MicroOp := readIndirectYCycles .lda

/-- LDA IZY (41 R200). -/
def execLdaIzy (s : State) : Host.Outcome State Fault Refusal := runInstr cyclesLdaIzy s

/-- LDX IMM: T2 to Tn (40 R143). -/
def cyclesLdxImm : List MicroOp := readImmediateCycles .ldx

/-- LDX IMM (41 R201). -/
def execLdxImm (s : State) : Host.Outcome State Fault Refusal := runInstr cyclesLdxImm s

/-- LDX ZP: T2 to Tn (40 R144). -/
def cyclesLdxZp : List MicroOp := readZeroPageCycles .ldx

/-- LDX ZP (41 R201). -/
def execLdxZp (s : State) : Host.Outcome State Fault Refusal := runInstr cyclesLdxZp s

/-- LDX ZPY: T2 to Tn (40 R145). -/
def cyclesLdxZpy : List MicroOp := readZeroPageIndexedCycles .y .ldx

/-- LDX ZPY (41 R201). -/
def execLdxZpy (s : State) : Host.Outcome State Fault Refusal := runInstr cyclesLdxZpy s

/-- LDX ABS: T2 to Tn (40 R144). -/
def cyclesLdxAbs : List MicroOp := readAbsoluteCycles .ldx

/-- LDX ABS (41 R201). -/
def execLdxAbs (s : State) : Host.Outcome State Fault Refusal := runInstr cyclesLdxAbs s

/-- LDX ABY: T2 to Tn (40 R146). -/
def cyclesLdxAby : List MicroOp := readAbsoluteIndexedCycles .y .ldx

/-- LDX ABY (41 R201). -/
def execLdxAby (s : State) : Host.Outcome State Fault Refusal := runInstr cyclesLdxAby s

/-- LDY IMM: T2 to Tn (40 R143). -/
def cyclesLdyImm : List MicroOp := readImmediateCycles .ldy

/-- LDY IMM (41 R202). -/
def execLdyImm (s : State) : Host.Outcome State Fault Refusal := runInstr cyclesLdyImm s

/-- LDY ZP: T2 to Tn (40 R144). -/
def cyclesLdyZp : List MicroOp := readZeroPageCycles .ldy

/-- LDY ZP (41 R202). -/
def execLdyZp (s : State) : Host.Outcome State Fault Refusal := runInstr cyclesLdyZp s

/-- LDY ZPX: T2 to Tn (40 R145). -/
def cyclesLdyZpx : List MicroOp := readZeroPageIndexedCycles .x .ldy

/-- LDY ZPX (41 R202). -/
def execLdyZpx (s : State) : Host.Outcome State Fault Refusal := runInstr cyclesLdyZpx s

/-- LDY ABS: T2 to Tn (40 R144). -/
def cyclesLdyAbs : List MicroOp := readAbsoluteCycles .ldy

/-- LDY ABS (41 R202). -/
def execLdyAbs (s : State) : Host.Outcome State Fault Refusal := runInstr cyclesLdyAbs s

/-- LDY ABX: T2 to Tn (40 R146). -/
def cyclesLdyAbx : List MicroOp := readAbsoluteIndexedCycles .x .ldy

/-- LDY ABX (41 R202). -/
def execLdyAbx (s : State) : Host.Outcome State Fault Refusal := runInstr cyclesLdyAbx s

/-- STA ZP: T2 to Tn (40 R149). -/
def cyclesStaZp : List MicroOp := writeZeroPageCycles .sta

/-- STA ZP (41 R203). -/
def execStaZp (s : State) : Host.Outcome State Fault Refusal := runInstr cyclesStaZp s

/-- STA ZPX: T2 to Tn (40 R149). -/
def cyclesStaZpx : List MicroOp := writeZeroPageIndexedCycles .x .sta

/-- STA ZPX (41 R203). -/
def execStaZpx (s : State) : Host.Outcome State Fault Refusal := runInstr cyclesStaZpx s

/-- STA ABS: T2 to Tn (40 R149). -/
def cyclesStaAbs : List MicroOp := writeAbsoluteCycles .sta

/-- STA ABS (41 R203). -/
def execStaAbs (s : State) : Host.Outcome State Fault Refusal := runInstr cyclesStaAbs s

/-- STA ABX: T2 to Tn (40 R150). -/
def cyclesStaAbx : List MicroOp := writeAbsoluteIndexedCycles .x .sta

/-- STA ABX (41 R203). -/
def execStaAbx (s : State) : Host.Outcome State Fault Refusal := runInstr cyclesStaAbx s

/-- STA ABY: T2 to Tn (40 R150). -/
def cyclesStaAby : List MicroOp := writeAbsoluteIndexedCycles .y .sta

/-- STA ABY (41 R203). -/
def execStaAby (s : State) : Host.Outcome State Fault Refusal := runInstr cyclesStaAby s

/-- STA IZX: T2 to Tn (40 R151). -/
def cyclesStaIzx : List MicroOp := writeIndirectXCycles .sta

/-- STA IZX (41 R203). -/
def execStaIzx (s : State) : Host.Outcome State Fault Refusal := runInstr cyclesStaIzx s

/-- STA IZY: T2 to Tn (40 R151). -/
def cyclesStaIzy : List MicroOp := writeIndirectYCycles .sta

/-- STA IZY (41 R203). -/
def execStaIzy (s : State) : Host.Outcome State Fault Refusal := runInstr cyclesStaIzy s

/-- STX ZP: T2 to Tn (40 R149). -/
def cyclesStxZp : List MicroOp := writeZeroPageCycles .stx

/-- STX ZP (41 R204). -/
def execStxZp (s : State) : Host.Outcome State Fault Refusal := runInstr cyclesStxZp s

/-- STX ZPY: T2 to Tn (40 R149). -/
def cyclesStxZpy : List MicroOp := writeZeroPageIndexedCycles .y .stx

/-- STX ZPY (41 R204). -/
def execStxZpy (s : State) : Host.Outcome State Fault Refusal := runInstr cyclesStxZpy s

/-- STX ABS: T2 to Tn (40 R149). -/
def cyclesStxAbs : List MicroOp := writeAbsoluteCycles .stx

/-- STX ABS (41 R204). -/
def execStxAbs (s : State) : Host.Outcome State Fault Refusal := runInstr cyclesStxAbs s

/-- STY ZP: T2 to Tn (40 R149). -/
def cyclesStyZp : List MicroOp := writeZeroPageCycles .sty

/-- STY ZP (41 R205). -/
def execStyZp (s : State) : Host.Outcome State Fault Refusal := runInstr cyclesStyZp s

/-- STY ZPX: T2 to Tn (40 R149). -/
def cyclesStyZpx : List MicroOp := writeZeroPageIndexedCycles .x .sty

/-- STY ZPX (41 R205). -/
def execStyZpx (s : State) : Host.Outcome State Fault Refusal := runInstr cyclesStyZpx s

/-- STY ABS: T2 to Tn (40 R149). -/
def cyclesStyAbs : List MicroOp := writeAbsoluteCycles .sty

/-- STY ABS (41 R205). -/
def execStyAbs (s : State) : Host.Outcome State Fault Refusal := runInstr cyclesStyAbs s

/-- TAX IMP: T2 to Tn (40 R142). -/
def cyclesTax : List MicroOp := impliedCycles .tax

/-- TAX IMP (41 R206). -/
def execTax (s : State) : Host.Outcome State Fault Refusal := runInstr cyclesTax s

/-- TAY IMP: T2 to Tn (40 R142). -/
def cyclesTay : List MicroOp := impliedCycles .tay

/-- TAY IMP (41 R207). -/
def execTay (s : State) : Host.Outcome State Fault Refusal := runInstr cyclesTay s

/-- TXA IMP: T2 to Tn (40 R142). -/
def cyclesTxa : List MicroOp := impliedCycles .txa

/-- TXA IMP (41 R208). -/
def execTxa (s : State) : Host.Outcome State Fault Refusal := runInstr cyclesTxa s

/-- TYA IMP: T2 to Tn (40 R142). -/
def cyclesTya : List MicroOp := impliedCycles .tya

/-- TYA IMP (41 R209). -/
def execTya (s : State) : Host.Outcome State Fault Refusal := runInstr cyclesTya s

/-- TSX IMP: T2 to Tn (40 R142). -/
def cyclesTsx : List MicroOp := impliedCycles .tsx

/-- TSX IMP (41 R210). -/
def execTsx (s : State) : Host.Outcome State Fault Refusal := runInstr cyclesTsx s

/-- TXS IMP: T2 to Tn (40 R142). -/
def cyclesTxs : List MicroOp := impliedCycles .txs

/-- TXS IMP (41 R211). -/
def execTxs (s : State) : Host.Outcome State Fault Refusal := runInstr cyclesTxs s

end Sys2Proof.Machine
end

