-- ==== Sys2Proof/Machine/RmwIncDec.lean ====
section
/-!
DEFINITION. The meanings of 43_rmw_incdec.md: shifts, rotates, increments and decrements. Each instruction has its cycle sequence T2 to Tn and its meaning, the run
of those cycles after the opcode fetch of T1.
-/

namespace Sys2Proof.Machine

/-- ASL ZP: T2 to Tn (40 R152). -/
def cyclesAslZp : List MicroOp := modifyZeroPageCycles .asl

/-- ASL ZP (43 R240). -/
def execAslZp (s : State) : Host.Outcome State Fault Refusal := runInstr cyclesAslZp s

/-- ASL ZPX: T2 to Tn (40 R152). -/
def cyclesAslZpx : List MicroOp := modifyZeroPageXCycles .asl

/-- ASL ZPX (43 R240). -/
def execAslZpx (s : State) : Host.Outcome State Fault Refusal := runInstr cyclesAslZpx s

/-- ASL ABS: T2 to Tn (40 R152). -/
def cyclesAslAbs : List MicroOp := modifyAbsoluteCycles .asl

/-- ASL ABS (43 R240). -/
def execAslAbs (s : State) : Host.Outcome State Fault Refusal := runInstr cyclesAslAbs s

/-- ASL ABX: T2 to Tn (40 R152). -/
def cyclesAslAbx : List MicroOp := modifyAbsoluteXCycles .asl

/-- ASL ABX (43 R240). -/
def execAslAbx (s : State) : Host.Outcome State Fault Refusal := runInstr cyclesAslAbx s

/-- ASL ACC: T2 to Tn (40 R153). -/
def cyclesAslAcc : List MicroOp := accumulatorCycles .asl

/-- ASL ACC (43 R240). -/
def execAslAcc (s : State) : Host.Outcome State Fault Refusal := runInstr cyclesAslAcc s

/-- LSR ZP: T2 to Tn (40 R152). -/
def cyclesLsrZp : List MicroOp := modifyZeroPageCycles .lsr

/-- LSR ZP (43 R241). -/
def execLsrZp (s : State) : Host.Outcome State Fault Refusal := runInstr cyclesLsrZp s

/-- LSR ZPX: T2 to Tn (40 R152). -/
def cyclesLsrZpx : List MicroOp := modifyZeroPageXCycles .lsr

/-- LSR ZPX (43 R241). -/
def execLsrZpx (s : State) : Host.Outcome State Fault Refusal := runInstr cyclesLsrZpx s

/-- LSR ABS: T2 to Tn (40 R152). -/
def cyclesLsrAbs : List MicroOp := modifyAbsoluteCycles .lsr

/-- LSR ABS (43 R241). -/
def execLsrAbs (s : State) : Host.Outcome State Fault Refusal := runInstr cyclesLsrAbs s

/-- LSR ABX: T2 to Tn (40 R152). -/
def cyclesLsrAbx : List MicroOp := modifyAbsoluteXCycles .lsr

/-- LSR ABX (43 R241). -/
def execLsrAbx (s : State) : Host.Outcome State Fault Refusal := runInstr cyclesLsrAbx s

/-- LSR ACC: T2 to Tn (40 R153). -/
def cyclesLsrAcc : List MicroOp := accumulatorCycles .lsr

/-- LSR ACC (43 R241). -/
def execLsrAcc (s : State) : Host.Outcome State Fault Refusal := runInstr cyclesLsrAcc s

/-- ROL ZP: T2 to Tn (40 R152). -/
def cyclesRolZp : List MicroOp := modifyZeroPageCycles .rol

/-- ROL ZP (43 R242). -/
def execRolZp (s : State) : Host.Outcome State Fault Refusal := runInstr cyclesRolZp s

/-- ROL ZPX: T2 to Tn (40 R152). -/
def cyclesRolZpx : List MicroOp := modifyZeroPageXCycles .rol

/-- ROL ZPX (43 R242). -/
def execRolZpx (s : State) : Host.Outcome State Fault Refusal := runInstr cyclesRolZpx s

/-- ROL ABS: T2 to Tn (40 R152). -/
def cyclesRolAbs : List MicroOp := modifyAbsoluteCycles .rol

/-- ROL ABS (43 R242). -/
def execRolAbs (s : State) : Host.Outcome State Fault Refusal := runInstr cyclesRolAbs s

/-- ROL ABX: T2 to Tn (40 R152). -/
def cyclesRolAbx : List MicroOp := modifyAbsoluteXCycles .rol

/-- ROL ABX (43 R242). -/
def execRolAbx (s : State) : Host.Outcome State Fault Refusal := runInstr cyclesRolAbx s

/-- ROL ACC: T2 to Tn (40 R153). -/
def cyclesRolAcc : List MicroOp := accumulatorCycles .rol

/-- ROL ACC (43 R242). -/
def execRolAcc (s : State) : Host.Outcome State Fault Refusal := runInstr cyclesRolAcc s

/-- ROR ZP: T2 to Tn (40 R152). -/
def cyclesRorZp : List MicroOp := modifyZeroPageCycles .ror

/-- ROR ZP (43 R243). -/
def execRorZp (s : State) : Host.Outcome State Fault Refusal := runInstr cyclesRorZp s

/-- ROR ZPX: T2 to Tn (40 R152). -/
def cyclesRorZpx : List MicroOp := modifyZeroPageXCycles .ror

/-- ROR ZPX (43 R243). -/
def execRorZpx (s : State) : Host.Outcome State Fault Refusal := runInstr cyclesRorZpx s

/-- ROR ABS: T2 to Tn (40 R152). -/
def cyclesRorAbs : List MicroOp := modifyAbsoluteCycles .ror

/-- ROR ABS (43 R243). -/
def execRorAbs (s : State) : Host.Outcome State Fault Refusal := runInstr cyclesRorAbs s

/-- ROR ABX: T2 to Tn (40 R152). -/
def cyclesRorAbx : List MicroOp := modifyAbsoluteXCycles .ror

/-- ROR ABX (43 R243). -/
def execRorAbx (s : State) : Host.Outcome State Fault Refusal := runInstr cyclesRorAbx s

/-- ROR ACC: T2 to Tn (40 R153). -/
def cyclesRorAcc : List MicroOp := accumulatorCycles .ror

/-- ROR ACC (43 R243). -/
def execRorAcc (s : State) : Host.Outcome State Fault Refusal := runInstr cyclesRorAcc s

/-- INC ZP: T2 to Tn (40 R152). -/
def cyclesIncZp : List MicroOp := modifyZeroPageCycles .inc

/-- INC ZP (43 R244). -/
def execIncZp (s : State) : Host.Outcome State Fault Refusal := runInstr cyclesIncZp s

/-- INC ZPX: T2 to Tn (40 R152). -/
def cyclesIncZpx : List MicroOp := modifyZeroPageXCycles .inc

/-- INC ZPX (43 R244). -/
def execIncZpx (s : State) : Host.Outcome State Fault Refusal := runInstr cyclesIncZpx s

/-- INC ABS: T2 to Tn (40 R152). -/
def cyclesIncAbs : List MicroOp := modifyAbsoluteCycles .inc

/-- INC ABS (43 R244). -/
def execIncAbs (s : State) : Host.Outcome State Fault Refusal := runInstr cyclesIncAbs s

/-- INC ABX: T2 to Tn (40 R152). -/
def cyclesIncAbx : List MicroOp := modifyAbsoluteXCycles .inc

/-- INC ABX (43 R244). -/
def execIncAbx (s : State) : Host.Outcome State Fault Refusal := runInstr cyclesIncAbx s

/-- DEC ZP: T2 to Tn (40 R152). -/
def cyclesDecZp : List MicroOp := modifyZeroPageCycles .dec

/-- DEC ZP (43 R245). -/
def execDecZp (s : State) : Host.Outcome State Fault Refusal := runInstr cyclesDecZp s

/-- DEC ZPX: T2 to Tn (40 R152). -/
def cyclesDecZpx : List MicroOp := modifyZeroPageXCycles .dec

/-- DEC ZPX (43 R245). -/
def execDecZpx (s : State) : Host.Outcome State Fault Refusal := runInstr cyclesDecZpx s

/-- DEC ABS: T2 to Tn (40 R152). -/
def cyclesDecAbs : List MicroOp := modifyAbsoluteCycles .dec

/-- DEC ABS (43 R245). -/
def execDecAbs (s : State) : Host.Outcome State Fault Refusal := runInstr cyclesDecAbs s

/-- DEC ABX: T2 to Tn (40 R152). -/
def cyclesDecAbx : List MicroOp := modifyAbsoluteXCycles .dec

/-- DEC ABX (43 R245). -/
def execDecAbx (s : State) : Host.Outcome State Fault Refusal := runInstr cyclesDecAbx s

/-- INX IMP: T2 to Tn (40 R142). -/
def cyclesInx : List MicroOp := impliedCycles .inx

/-- INX IMP (43 R246). -/
def execInx (s : State) : Host.Outcome State Fault Refusal := runInstr cyclesInx s

/-- INY IMP: T2 to Tn (40 R142). -/
def cyclesIny : List MicroOp := impliedCycles .iny

/-- INY IMP (43 R247). -/
def execIny (s : State) : Host.Outcome State Fault Refusal := runInstr cyclesIny s

/-- DEX IMP: T2 to Tn (40 R142). -/
def cyclesDex : List MicroOp := impliedCycles .dex

/-- DEX IMP (43 R248). -/
def execDex (s : State) : Host.Outcome State Fault Refusal := runInstr cyclesDex s

/-- DEY IMP: T2 to Tn (40 R142). -/
def cyclesDey : List MicroOp := impliedCycles .dey

/-- DEY IMP (43 R249). -/
def execDey (s : State) : Host.Outcome State Fault Refusal := runInstr cyclesDey s

end Sys2Proof.Machine
end

