-- ==== Sys2Proof/Machine/StackOps.lean ====
section
/-!
DEFINITION. The meanings of 44_stack.md: stack instructions. Each instruction has its cycle sequence T2 to Tn and its meaning, the run
of those cycles after the opcode fetch of T1.
-/

namespace Sys2Proof.Machine

/-- PHA IMP: T2 to Tn (44 R260). -/
def cyclesPha : List MicroOp := [.dummyPc, .pushA]

/-- PHA IMP (44 R260). -/
def execPha (s : State) : Host.Outcome State Fault Refusal := runInstr cyclesPha s

/-- PHP IMP: T2 to Tn (44 R261). -/
def cyclesPhp : List MicroOp := [.dummyPc, .pushP]

/-- PHP IMP (44 R261). -/
def execPhp (s : State) : Host.Outcome State Fault Refusal := runInstr cyclesPhp s

/-- PLA IMP: T2 to Tn (44 R262). -/
def cyclesPla : List MicroOp := [.dummyPc, .dummyStackPull, .pullA]

/-- PLA IMP (44 R262). -/
def execPla (s : State) : Host.Outcome State Fault Refusal := runInstr cyclesPla s

/-- PLP IMP: T2 to Tn (44 R263). -/
def cyclesPlp : List MicroOp := [.dummyPc, .dummyStackPull, .pullP]

/-- PLP IMP (44 R263). -/
def execPlp (s : State) : Host.Outcome State Fault Refusal := runInstr cyclesPlp s

end Sys2Proof.Machine
end

