-- ==== Sys2Proof/Machine/Dispatch.lean ====
section
/-!
DEFINITION. exec: one arm per instruction, each one call of the instruction's meaning.
-/

namespace Sys2Proof.Machine

def exec (i : Instr) (s : State) : Host.Outcome State Fault Refusal :=
  match i with
  -- 41_load_store_transfer.md
  | .ldaImm => Sys2Proof.Machine.execLdaImm s
  | .ldaZp => Sys2Proof.Machine.execLdaZp s
  | .ldaZpx => Sys2Proof.Machine.execLdaZpx s
  | .ldaAbs => Sys2Proof.Machine.execLdaAbs s
  | .ldaAbx => Sys2Proof.Machine.execLdaAbx s
  | .ldaAby => Sys2Proof.Machine.execLdaAby s
  | .ldaIzx => Sys2Proof.Machine.execLdaIzx s
  | .ldaIzy => Sys2Proof.Machine.execLdaIzy s
  | .ldxImm => Sys2Proof.Machine.execLdxImm s
  | .ldxZp => Sys2Proof.Machine.execLdxZp s
  | .ldxZpy => Sys2Proof.Machine.execLdxZpy s
  | .ldxAbs => Sys2Proof.Machine.execLdxAbs s
  | .ldxAby => Sys2Proof.Machine.execLdxAby s
  | .ldyImm => Sys2Proof.Machine.execLdyImm s
  | .ldyZp => Sys2Proof.Machine.execLdyZp s
  | .ldyZpx => Sys2Proof.Machine.execLdyZpx s
  | .ldyAbs => Sys2Proof.Machine.execLdyAbs s
  | .ldyAbx => Sys2Proof.Machine.execLdyAbx s
  | .staZp => Sys2Proof.Machine.execStaZp s
  | .staZpx => Sys2Proof.Machine.execStaZpx s
  | .staAbs => Sys2Proof.Machine.execStaAbs s
  | .staAbx => Sys2Proof.Machine.execStaAbx s
  | .staAby => Sys2Proof.Machine.execStaAby s
  | .staIzx => Sys2Proof.Machine.execStaIzx s
  | .staIzy => Sys2Proof.Machine.execStaIzy s
  | .stxZp => Sys2Proof.Machine.execStxZp s
  | .stxZpy => Sys2Proof.Machine.execStxZpy s
  | .stxAbs => Sys2Proof.Machine.execStxAbs s
  | .styZp => Sys2Proof.Machine.execStyZp s
  | .styZpx => Sys2Proof.Machine.execStyZpx s
  | .styAbs => Sys2Proof.Machine.execStyAbs s
  | .tax => Sys2Proof.Machine.execTax s
  | .tay => Sys2Proof.Machine.execTay s
  | .txa => Sys2Proof.Machine.execTxa s
  | .tya => Sys2Proof.Machine.execTya s
  | .tsx => Sys2Proof.Machine.execTsx s
  | .txs => Sys2Proof.Machine.execTxs s
  -- 42_arith_logic.md
  | .adcImm => Sys2Proof.Machine.execAdcImm s
  | .adcZp => Sys2Proof.Machine.execAdcZp s
  | .adcZpx => Sys2Proof.Machine.execAdcZpx s
  | .adcAbs => Sys2Proof.Machine.execAdcAbs s
  | .adcAbx => Sys2Proof.Machine.execAdcAbx s
  | .adcAby => Sys2Proof.Machine.execAdcAby s
  | .adcIzx => Sys2Proof.Machine.execAdcIzx s
  | .adcIzy => Sys2Proof.Machine.execAdcIzy s
  | .sbcImm => Sys2Proof.Machine.execSbcImm s
  | .sbcZp => Sys2Proof.Machine.execSbcZp s
  | .sbcZpx => Sys2Proof.Machine.execSbcZpx s
  | .sbcAbs => Sys2Proof.Machine.execSbcAbs s
  | .sbcAbx => Sys2Proof.Machine.execSbcAbx s
  | .sbcAby => Sys2Proof.Machine.execSbcAby s
  | .sbcIzx => Sys2Proof.Machine.execSbcIzx s
  | .sbcIzy => Sys2Proof.Machine.execSbcIzy s
  | .andImm => Sys2Proof.Machine.execAndImm s
  | .andZp => Sys2Proof.Machine.execAndZp s
  | .andZpx => Sys2Proof.Machine.execAndZpx s
  | .andAbs => Sys2Proof.Machine.execAndAbs s
  | .andAbx => Sys2Proof.Machine.execAndAbx s
  | .andAby => Sys2Proof.Machine.execAndAby s
  | .andIzx => Sys2Proof.Machine.execAndIzx s
  | .andIzy => Sys2Proof.Machine.execAndIzy s
  | .oraImm => Sys2Proof.Machine.execOraImm s
  | .oraZp => Sys2Proof.Machine.execOraZp s
  | .oraZpx => Sys2Proof.Machine.execOraZpx s
  | .oraAbs => Sys2Proof.Machine.execOraAbs s
  | .oraAbx => Sys2Proof.Machine.execOraAbx s
  | .oraAby => Sys2Proof.Machine.execOraAby s
  | .oraIzx => Sys2Proof.Machine.execOraIzx s
  | .oraIzy => Sys2Proof.Machine.execOraIzy s
  | .eorImm => Sys2Proof.Machine.execEorImm s
  | .eorZp => Sys2Proof.Machine.execEorZp s
  | .eorZpx => Sys2Proof.Machine.execEorZpx s
  | .eorAbs => Sys2Proof.Machine.execEorAbs s
  | .eorAbx => Sys2Proof.Machine.execEorAbx s
  | .eorAby => Sys2Proof.Machine.execEorAby s
  | .eorIzx => Sys2Proof.Machine.execEorIzx s
  | .eorIzy => Sys2Proof.Machine.execEorIzy s
  | .cmpImm => Sys2Proof.Machine.execCmpImm s
  | .cmpZp => Sys2Proof.Machine.execCmpZp s
  | .cmpZpx => Sys2Proof.Machine.execCmpZpx s
  | .cmpAbs => Sys2Proof.Machine.execCmpAbs s
  | .cmpAbx => Sys2Proof.Machine.execCmpAbx s
  | .cmpAby => Sys2Proof.Machine.execCmpAby s
  | .cmpIzx => Sys2Proof.Machine.execCmpIzx s
  | .cmpIzy => Sys2Proof.Machine.execCmpIzy s
  | .cpxImm => Sys2Proof.Machine.execCpxImm s
  | .cpxZp => Sys2Proof.Machine.execCpxZp s
  | .cpxAbs => Sys2Proof.Machine.execCpxAbs s
  | .cpyImm => Sys2Proof.Machine.execCpyImm s
  | .cpyZp => Sys2Proof.Machine.execCpyZp s
  | .cpyAbs => Sys2Proof.Machine.execCpyAbs s
  | .bitZp => Sys2Proof.Machine.execBitZp s
  | .bitAbs => Sys2Proof.Machine.execBitAbs s
  -- 43_rmw_incdec.md
  | .aslZp => Sys2Proof.Machine.execAslZp s
  | .aslZpx => Sys2Proof.Machine.execAslZpx s
  | .aslAbs => Sys2Proof.Machine.execAslAbs s
  | .aslAbx => Sys2Proof.Machine.execAslAbx s
  | .aslAcc => Sys2Proof.Machine.execAslAcc s
  | .lsrZp => Sys2Proof.Machine.execLsrZp s
  | .lsrZpx => Sys2Proof.Machine.execLsrZpx s
  | .lsrAbs => Sys2Proof.Machine.execLsrAbs s
  | .lsrAbx => Sys2Proof.Machine.execLsrAbx s
  | .lsrAcc => Sys2Proof.Machine.execLsrAcc s
  | .rolZp => Sys2Proof.Machine.execRolZp s
  | .rolZpx => Sys2Proof.Machine.execRolZpx s
  | .rolAbs => Sys2Proof.Machine.execRolAbs s
  | .rolAbx => Sys2Proof.Machine.execRolAbx s
  | .rolAcc => Sys2Proof.Machine.execRolAcc s
  | .rorZp => Sys2Proof.Machine.execRorZp s
  | .rorZpx => Sys2Proof.Machine.execRorZpx s
  | .rorAbs => Sys2Proof.Machine.execRorAbs s
  | .rorAbx => Sys2Proof.Machine.execRorAbx s
  | .rorAcc => Sys2Proof.Machine.execRorAcc s
  | .incZp => Sys2Proof.Machine.execIncZp s
  | .incZpx => Sys2Proof.Machine.execIncZpx s
  | .incAbs => Sys2Proof.Machine.execIncAbs s
  | .incAbx => Sys2Proof.Machine.execIncAbx s
  | .decZp => Sys2Proof.Machine.execDecZp s
  | .decZpx => Sys2Proof.Machine.execDecZpx s
  | .decAbs => Sys2Proof.Machine.execDecAbs s
  | .decAbx => Sys2Proof.Machine.execDecAbx s
  | .inx => Sys2Proof.Machine.execInx s
  | .iny => Sys2Proof.Machine.execIny s
  | .dex => Sys2Proof.Machine.execDex s
  | .dey => Sys2Proof.Machine.execDey s
  -- 44_stack.md
  | .pha => Sys2Proof.Machine.execPha s
  | .php => Sys2Proof.Machine.execPhp s
  | .pla => Sys2Proof.Machine.execPla s
  | .plp => Sys2Proof.Machine.execPlp s
  -- 45_control_flow.md
  | .jmpAbs => Sys2Proof.Machine.execJmpAbs s
  | .jmpInd => Sys2Proof.Machine.execJmpInd s
  | .jsr => Sys2Proof.Machine.execJsr s
  | .rts => Sys2Proof.Machine.execRts s
  | .rti => Sys2Proof.Machine.execRti s
  | .brk => Sys2Proof.Machine.execBrk s
  | .bcc => Sys2Proof.Machine.execBcc s
  | .bcs => Sys2Proof.Machine.execBcs s
  | .beq => Sys2Proof.Machine.execBeq s
  | .bmi => Sys2Proof.Machine.execBmi s
  | .bne => Sys2Proof.Machine.execBne s
  | .bpl => Sys2Proof.Machine.execBpl s
  | .bvc => Sys2Proof.Machine.execBvc s
  | .bvs => Sys2Proof.Machine.execBvs s
  -- 46_flags_nop.md
  | .clc => Sys2Proof.Machine.execClc s
  | .sec => Sys2Proof.Machine.execSec s
  | .cli => Sys2Proof.Machine.execCli s
  | .sei => Sys2Proof.Machine.execSei s
  | .cld => Sys2Proof.Machine.execCld s
  | .sed => Sys2Proof.Machine.execSed s
  | .clv => Sys2Proof.Machine.execClv s
  | .nop => Sys2Proof.Machine.execNop s
  -- 47_debug_ext.md
  | .halt => Sys2Proof.Machine.execHalt s
  | .test => Sys2Proof.Machine.execTest s
  | .trap => Sys2Proof.Machine.execTrap s

end Sys2Proof.Machine
end

