-- ==== Sys2Proof/Machine/Engine.lean ====
section
/-!
DEFINITION. The engine at the quiescent point and the whole tick: snapshot and restore, interrupt sampling and
recognition, fetch intercepts, FetchDecode, `engineTick` (40 R130 to R138); the part of `step` before the
instruction; power-on; and the placing of a word where the next fetch reads it.
-/

namespace Sys2Proof.Machine

/-- T2 to Tn of each instruction, less its conditional cycles: what FetchDecode pushes (40 R133). -/
def cyclesOf : Instr → List MicroOp
  | .ldaImm => cyclesLdaImm
  | .ldaZp => cyclesLdaZp
  | .ldaZpx => cyclesLdaZpx
  | .ldaAbs => cyclesLdaAbs
  | .ldaAbx => cyclesLdaAbx
  | .ldaAby => cyclesLdaAby
  | .ldaIzx => cyclesLdaIzx
  | .ldaIzy => cyclesLdaIzy
  | .ldxImm => cyclesLdxImm
  | .ldxZp => cyclesLdxZp
  | .ldxZpy => cyclesLdxZpy
  | .ldxAbs => cyclesLdxAbs
  | .ldxAby => cyclesLdxAby
  | .ldyImm => cyclesLdyImm
  | .ldyZp => cyclesLdyZp
  | .ldyZpx => cyclesLdyZpx
  | .ldyAbs => cyclesLdyAbs
  | .ldyAbx => cyclesLdyAbx
  | .staZp => cyclesStaZp
  | .staZpx => cyclesStaZpx
  | .staAbs => cyclesStaAbs
  | .staAbx => cyclesStaAbx
  | .staAby => cyclesStaAby
  | .staIzx => cyclesStaIzx
  | .staIzy => cyclesStaIzy
  | .stxZp => cyclesStxZp
  | .stxZpy => cyclesStxZpy
  | .stxAbs => cyclesStxAbs
  | .styZp => cyclesStyZp
  | .styZpx => cyclesStyZpx
  | .styAbs => cyclesStyAbs
  | .tax => cyclesTax
  | .tay => cyclesTay
  | .txa => cyclesTxa
  | .tya => cyclesTya
  | .tsx => cyclesTsx
  | .txs => cyclesTxs
  | .adcImm => cyclesAdcImm
  | .adcZp => cyclesAdcZp
  | .adcZpx => cyclesAdcZpx
  | .adcAbs => cyclesAdcAbs
  | .adcAbx => cyclesAdcAbx
  | .adcAby => cyclesAdcAby
  | .adcIzx => cyclesAdcIzx
  | .adcIzy => cyclesAdcIzy
  | .sbcImm => cyclesSbcImm
  | .sbcZp => cyclesSbcZp
  | .sbcZpx => cyclesSbcZpx
  | .sbcAbs => cyclesSbcAbs
  | .sbcAbx => cyclesSbcAbx
  | .sbcAby => cyclesSbcAby
  | .sbcIzx => cyclesSbcIzx
  | .sbcIzy => cyclesSbcIzy
  | .andImm => cyclesAndImm
  | .andZp => cyclesAndZp
  | .andZpx => cyclesAndZpx
  | .andAbs => cyclesAndAbs
  | .andAbx => cyclesAndAbx
  | .andAby => cyclesAndAby
  | .andIzx => cyclesAndIzx
  | .andIzy => cyclesAndIzy
  | .oraImm => cyclesOraImm
  | .oraZp => cyclesOraZp
  | .oraZpx => cyclesOraZpx
  | .oraAbs => cyclesOraAbs
  | .oraAbx => cyclesOraAbx
  | .oraAby => cyclesOraAby
  | .oraIzx => cyclesOraIzx
  | .oraIzy => cyclesOraIzy
  | .eorImm => cyclesEorImm
  | .eorZp => cyclesEorZp
  | .eorZpx => cyclesEorZpx
  | .eorAbs => cyclesEorAbs
  | .eorAbx => cyclesEorAbx
  | .eorAby => cyclesEorAby
  | .eorIzx => cyclesEorIzx
  | .eorIzy => cyclesEorIzy
  | .cmpImm => cyclesCmpImm
  | .cmpZp => cyclesCmpZp
  | .cmpZpx => cyclesCmpZpx
  | .cmpAbs => cyclesCmpAbs
  | .cmpAbx => cyclesCmpAbx
  | .cmpAby => cyclesCmpAby
  | .cmpIzx => cyclesCmpIzx
  | .cmpIzy => cyclesCmpIzy
  | .cpxImm => cyclesCpxImm
  | .cpxZp => cyclesCpxZp
  | .cpxAbs => cyclesCpxAbs
  | .cpyImm => cyclesCpyImm
  | .cpyZp => cyclesCpyZp
  | .cpyAbs => cyclesCpyAbs
  | .bitZp => cyclesBitZp
  | .bitAbs => cyclesBitAbs
  | .aslZp => cyclesAslZp
  | .aslZpx => cyclesAslZpx
  | .aslAbs => cyclesAslAbs
  | .aslAbx => cyclesAslAbx
  | .aslAcc => cyclesAslAcc
  | .lsrZp => cyclesLsrZp
  | .lsrZpx => cyclesLsrZpx
  | .lsrAbs => cyclesLsrAbs
  | .lsrAbx => cyclesLsrAbx
  | .lsrAcc => cyclesLsrAcc
  | .rolZp => cyclesRolZp
  | .rolZpx => cyclesRolZpx
  | .rolAbs => cyclesRolAbs
  | .rolAbx => cyclesRolAbx
  | .rolAcc => cyclesRolAcc
  | .rorZp => cyclesRorZp
  | .rorZpx => cyclesRorZpx
  | .rorAbs => cyclesRorAbs
  | .rorAbx => cyclesRorAbx
  | .rorAcc => cyclesRorAcc
  | .incZp => cyclesIncZp
  | .incZpx => cyclesIncZpx
  | .incAbs => cyclesIncAbs
  | .incAbx => cyclesIncAbx
  | .decZp => cyclesDecZp
  | .decZpx => cyclesDecZpx
  | .decAbs => cyclesDecAbs
  | .decAbx => cyclesDecAbx
  | .inx => cyclesInx
  | .iny => cyclesIny
  | .dex => cyclesDex
  | .dey => cyclesDey
  | .pha => cyclesPha
  | .php => cyclesPhp
  | .pla => cyclesPla
  | .plp => cyclesPlp
  | .jmpAbs => cyclesJmpAbs
  | .jmpInd => cyclesJmpInd
  | .jsr => cyclesJsr
  | .rts => cyclesRts
  | .rti => cyclesRti
  | .brk => cyclesBrk
  | .bcc => cyclesBcc
  | .bcs => cyclesBcs
  | .beq => cyclesBeq
  | .bmi => cyclesBmi
  | .bne => cyclesBne
  | .bpl => cyclesBpl
  | .bvc => cyclesBvc
  | .bvs => cyclesBvs
  | .clc => cyclesClc
  | .sec => cyclesSec
  | .cli => cyclesCli
  | .sei => cyclesSei
  | .cld => cyclesCld
  | .sed => cyclesSed
  | .clv => cyclesClv
  | .nop => cyclesNop
  | .halt => cyclesHalt
  | .test => cyclesTest
  | .trap => cyclesTrap

/-! ## Step (a): snapshot and restore (10 R43, R50; 40 R132) -/

/-- The persisted component of the engine (10 R50). -/
def State.image (s : State) : Image := ⟨s.a, s.x, s.y, s.sp, s.pc, s.p⟩

/-- The register file and flag byte written from an image, all eight bits of P included (10 R50). -/
def State.restoreImage (s : State) (i : Image) : State :=
  { s with a := i.a, x := i.x, y := i.y, sp := i.s, pc := i.pc, p := i.p }

/-- Step (a) of the quiescent point: a pending request performed and consumed (40 R132). -/
def performSnapshot (s : State) : State :=
  match s.snapReq with
  | none => s
  | some .capture => { s with captured := some s.image, snapReq := none }
  | some (.restore i) => { s.restoreImage i with snapReq := none }

/-! ## Step (a') to (c): interrupt sampling and recognition (60 R330 to R334) -/

/-- The aggregate IRQ level, sampled at the quiescent point (60 R330, R331). -/
def State.irqNow (s : State) : Bool := s.irqLines.any id

/-- The aggregate NMI level (60 R330). -/
def State.nmiNow (s : State) : Bool := s.nmiLines.any id

/-- `SampleInterrupts()`: a rising edge of the aggregate NMI sets the latch (60 R331). -/
def sampleInterrupts (s : State) : State :=
  { s with nmiLatch := s.nmiLatch || (s.nmiNow && !s.nmiPrev), nmiPrev := s.nmiNow }

/-- The service that the checks (b) and (c) begin, in the order of 60 R334; IRQ only when P.I = 0
(60 R333). -/
def pendingService (s : State) : Option ServiceKind :=
  if s.resetPending then some .reset
  else if s.nmiLatch then some .nmi
  else if !getFlag s.p .i && s.irqNow then some .irq
  else none

/-! ## Step (d): intercepts and the opcode fetch (20 R84, 40 R133) -/

/-- The value of a register as a handler reads it. -/
def State.cpuReg (s : State) : CpuReg → Byte
  | .a => s.a
  | .x => s.x
  | .y => s.y
  | .s => s.sp
  | .p => s.p
  | .pcHi => hiByte s.pc
  | .pcLo => loByte s.pc

/-- A register written by a handler. -/
def State.setCpuReg (s : State) (r : CpuReg) (v : Byte) : State :=
  match r with
  | .a => { s with a := v }
  | .x => { s with x := v }
  | .y => { s with y := v }
  | .s => { s with sp := v }
  | .p => { s with p := v }
  | .pcHi => { s with pc := wordOf v (loByte s.pc) }
  | .pcLo => { s with pc := wordOf (hiByte s.pc) v }

/-- The effects of handler code (20 R84, 70 R420); `onFree` is what its free parts do. -/
def HandlerCode.run (onFree : Nat → State → State) : HandlerCode → State → State
  | .skip, s => s
  | .seq f g, s => g.run onFree (f.run onFree s)
  | .ifElse t f g, s => if t.holds s.cpuReg {} s then f.run onFree s else g.run onFree s
  | .act a, s => a.run runFreeAction {} s
  | .set r v, s => s.unlessFaulted (s.setCpuReg r (v.value s.cpuReg {} s))
  | .poke hi lo v, s => s.unlessFaulted (s.poked s.cpuReg {} hi lo v)
  | .snapshot r, s => s.unlessFaulted { s with snapReq := some r }
  | .free k, s => onFree k s

/-- What free handler code does: the code drawn for this run, whose own free parts do nothing, since it is any
code already. -/
def runFreeHandler (k : Nat) (s : State) : State :=
  (Config.freeHandler s.codeDraws k).run (fun _ t => t) s

/-- A run of a handler: the state it leaves, and its answer, read from that state (20 R84; log 10). -/
def runHandler (h : Handler) (s : State) : State × Bool :=
  let t := h.code.run runFreeHandler s
  (t.drawn, h.proceed.holds t.cpuReg {} t)

/-- The handler installed at an address (20 R84). -/
def State.handlerAt (s : State) (addr : Word) : Option Handler :=
  (s.intercepts.find? fun e => e.1 == addr).map Prod.snd

/-- `process_intercepts(PC)`: the state the handler leaves, and whether the fetch proceeds (20 R84). -/
def processIntercepts (s : State) : State × Bool :=
  match s.handlerAt s.pc with
  | none => (s, true)
  | some h => runHandler h s

/-- What the CPU step of a tick leaves: a state, or a state with an instruction just fetched. -/
inductive CpuStep
  | ran (s : State)
  | fetched (i : Instr) (s : State)
  deriving DecidableEq, Repr

/-- The writes of T1: the opcode latched and PC advanced (40 R133). -/
def opcodeRead (opcode : Byte) (s : State) : State :=
  { s.advance with tmp := { s.tmp with opcode := opcode } }

/-- `FetchDecode()` up to the decoded key; an unregistered opcode is a DecodeError with PC advanced
(40 R133, 60 R321). -/
def fetchDecode (s : State) : CpuStep :=
  match busRead s s.pc with
  | .unmapped f => .ran (s.raise f)
  | .done v t =>
    if t.fault.isSome then .ran t
    else
      match decodeOpcode t.cfg v with
      | none => .ran ((opcodeRead v t).raise (.decodeError v s.pc))
      | some i => .fetched i (opcodeRead v t)

/-- Step (d): intercepts, then the fetch (40 R132; a handler's own fault stops the tick, log 10). -/
def interceptedFetch (s : State) : CpuStep :=
  let r := processIntercepts s
  if r.2 && r.1.fault.isNone then fetchDecode r.1 else .ran r.1

/-- `QuiescentStep()` (40 R132): a check clears the request it takes, and then the service begins. The record of
bus cycles starts anew (log 12). -/
def quiescentStep (s : State) : CpuStep :=
  let t := sampleInterrupts (performSnapshot { s with bus := [] })
  match pendingService t with
  | some kind => .ran (beginService kind (takeRequest kind t))
  | none => interceptedFetch t

/-! ## The tick (40 R130, R131) -/

/-- The quiescent point: the queue empty and no service running (10 R44, 40 R132). -/
def State.quiescent (s : State) : Bool := s.queue.isEmpty && !s.servicing

/-- `CpuStep()`: the quiescent step, or one micro-op (40 R132, R134). -/
def cpuStep (s : State) : CpuStep :=
  if s.quiescent then quiescentStep s else .ran (cpuMicroOp s)

/-- `CpuStep()` with a fetched instruction's cycles pushed (40 R133). -/
def cpuTick (s : State) : State :=
  match cpuStep s with
  | .ran t => t
  | .fetched i t => pushAll (cyclesOf i) t

/-- `EngineTick()`, one emulated cycle of the engine (40 R130, R131). A configuration that cannot be built has no
run, and so no tick (30 R109, log 6). -/
def engineTick (s : State) : State := if s.cfg.wellFormed then tickWith cpuTick s else s

/-! ## The part of `step` before the instruction -/

/-- How a step begins. -/
inductive Front
  | refused (r : Refusal)
  | fault (f : Fault)
  | next (s : State)
  | fetched (i : Instr) (s : State)
  deriving DecidableEq, Repr

/-- A step up to the point where an instruction has been fetched, or whole where none is: a
configuration that cannot be built is refused (30 R109), a faulted engine answers its fault and a halted
one stays as it is (40 R137; log 5), a service sequence, an intercepted fetch, a fault or the rest of a
partly executed instruction runs to the next quiescent point. -/
def stepFront (s : State) : Front :=
  if !s.cfg.wellFormed then .refused .badConfiguration
  else
    match s.fault with
    | some f => .fault f
    | none =>
      if s.halted.isSome then .next s
      else if (startTick s).fault.isSome then .next (endTick (startTick s))
      else
        match cpuStep (startTick s) with
        | .ran t => .next (drainAll (endTick t))
        | .fetched i t => .fetched i t

/-! ## Power-on and program placement -/

/-- Power-on (10 R54, 70 R400): the registers are the draws `por`, a reset is pending, every other control
field is cleared and the scheduler holds no task; memory, configuration, interrupt lines, devices,
intercepts and the clock are those of the environment `env`. `svc_kind` and the temporaries, to which the spec gives
no value here, are RESET and zero (DESIGN CHOICE, log 14): no tick reads either before it has written it. -/
def State.powerOn (por : Image) (env : State) : State :=
  { env.restoreImage por with
    resetPending := true
    nmiLatch := false
    nmiPrev := false
    snapReq := none
    captured := none
    servicing := false
    svcKind := .reset
    tmp := {}
    halted := none
    fault := none
    cycles := 0
    queue := []
    bus := []
    busDraws := 0
    codeDraws := 0
    sched := {} }

/-- Bytes stored from an address upwards, wrapping at 16 bits. -/
def storeBytes : List Byte → Word → State → State
  | [], _, s => s
  | b :: bs, addr, s => storeBytes bs (addr + 1#16) (s.setMem addr b)

/-- The bytes of a table word stored where the next opcode fetch reads. -/
def placeWord (s : State) (nbits w : Nat) : State := storeBytes (tableBytes nbits w) s.pc s

end Sys2Proof.Machine
end

