-- ==== Sys2Proof/Machine/Step.lean ====
section
/-!
DEFINITION. One step of the machine: the engine's ticks from the present state to the next quiescent point or to
the stop (log 4), and the placing of a table word for the host's probe.
-/

namespace Sys2Proof.Machine

/-- One step: a fetched instruction is run by `exec`; everything else is `stepFront`'s. -/
def step (s : State) : Host.Outcome State Fault Refusal :=
  match stepFront s with
  | .refused r => .refused r
  | .fault f => .fault f
  | .next t => .next t
  | .fetched i t => exec i t

/-- `s` with the instruction of a table word stored at PC, operand bytes above the word zero: the next step
from a running quiescent state with nothing pending fetches and runs exactly it (log 18). -/
def State.withFetchWord (s : State) (nbits w : Nat) : State := placeWord s nbits w

end Sys2Proof.Machine
end

