-- ==== Sys2Proof/Machine/Clock.lean ====
section
/-!
DEFINITION. The pacing clock (60 R370 to R379): set_rate, set_paused, the drift correction, the resync, one
iteration of the run loop and the loop itself, with the host's wall-clock readings as inputs (log 15). Its
quantities are reals, so its comparisons are those of ℝ and not computable in general; `ρ` is the meaning of the named
reals, any at all (log 21).
-/

namespace Sys2Proof.Machine

/-- The host's answers to the two calls of `now()` in a resync (60 R375). -/
structure ResyncReadings where
  /-- `t_resync <- now()` -/
  mark : Quantity
  /-- `deadline <- now() + delay` -/
  deadline : Quantity
  deriving DecidableEq, Repr

/-- The host's answers to the calls of `now()` in one iteration of the loop, in nanoseconds; each is a draw,
and a reading below an earlier one counts as that one (60 R373: non-decreasing; log 15). -/
structure Wall where
  /-- the end of the coarse sleep, or of the busy-wait -/
  waited : Quantity
  /-- `elapsed <- now() - last_tick` -/
  elapsed : Quantity
  /-- `last_tick <- now()` -/
  ticked : Quantity
  /-- the reading of the drift correction -/
  nudge : Quantity
  /-- the reading of the resync test -/
  check : Quantity
  /-- the readings of the resync -/
  resync : ResyncReadings
  deriving DecidableEq, Repr

/-- A reading of `now()`. Wall time that passes while the clock is paused is added to `paused_ns` as it is read
(60 R376). -/
noncomputable def Clock.now (ρ : Nat → ℝ) (c : Clock) (w : Quantity) : Clock :=
  let time := c.lastNow.larger ρ w
  { c with
    lastNow := time
    pausedNs := if c.paused then c.pausedNs.plus (time.minus c.lastNow) else c.pausedNs }

/-- The unpaused wall time since the last resync, at the latest reading. -/
def Clock.activeNs (c : Clock) : Quantity := (c.lastNow.minus c.tResync).minus c.pausedNs

/-- The achieved rate, cycles since the resync per second (60 R374); the spec states no value when no time
has passed, and it is a free value then (log 15). -/
noncomputable def Clock.achieved (ρ : Nat → ℝ) (c : Clock) : Quantity :=
  if c.activeNs.isZero ρ then .rateAtNoTime c.since
  else Quantity.over (.rat (c.since * 1000000000)) c.activeNs

/-- `clamp(v, 10, nominal)` (60 R374); for a nominal delay below 10 ns it is the nominal delay (log 15). -/
noncomputable def clampDelay (ρ : Nat → ℝ) (v nominal : Quantity) : Quantity :=
  nominal.smaller ρ (Quantity.larger ρ (.rat 10) v)

/-- `Nudge()` (60 R374). -/
noncomputable def Clock.nudge (ρ : Nat → ℝ) (c : Clock) : Clock :=
  { c with delay := clampDelay ρ (c.delay.times (.nudge c.delay (c.achieved ρ) c.rate)) c.nominal }

/-- `Resync()`, with its two readings (60 R375). The achieved rate it publishes is the one at its first reading,
computed anew (DESIGN CHOICE, log 15: R374 assigns `achieved` every 256 cycles, and R375 does not say which value
of it is published). -/
noncomputable def Clock.resync (ρ : Nat → ℝ) (c : Clock) (r : ResyncReadings) : Clock :=
  let d := c.now ρ r.mark
  let e := Clock.now ρ
    { d with
      delay := d.nominal, metrics := some (d.achieved ρ), since := 0, tResync := d.lastNow, pausedNs := .rat 0 }
    r.deadline
  { e with deadline := e.lastNow.plus e.delay }

/-- `set_rate(cycles_per_second, throttled)` (60 R372): a rate of zero or less is refused. -/
noncomputable def setRate (ρ : Nat → ℝ) (rate : Quantity) (throttled : Bool) (r : ResyncReadings) (s : State) :
    Host.Outcome State Fault Refusal :=
  if Quantity.less ρ (.rat 0) rate then
    let nominal := Quantity.over (.rat 1000000000) rate
    .next
      { s with
        clock :=
          Clock.resync ρ
            { s.clock with
              rate := rate, throttled := throttled, nominal := nominal, delay := nominal }
            r }
  else .refused .badRate

/-- The callbacks of listeners, in order, each under the same call (60 R371). -/
def runListeners (code : Listener → Action) (call : Call) (listeners : List Listener) (s : State) : State :=
  listeners.foldl (fun t l => runAction call (code l) t) s

/-- `set_paused(b)` at a reading of `now()` (60 R376): the paused time up to it is added, resuming forces a resync,
and then `b` is passed to every listener in the order of `LISTENERS`, the engine's own `set_paused` being a no-op
(60 R371). -/
noncomputable def setPaused (ρ : Nat → ℝ) (paused : Bool) (now : Quantity) (r : ResyncReadings) (s : State) :
    State :=
  let c := { s.clock.now ρ now with paused := paused }
  let t := { s with clock := if paused then c else c.resync ρ r }
  runListeners Listener.setPaused { paused := paused } (c.before ++ c.after) t

/-- The loop's wait, with throttling not before the deadline, and the readings of the tick: the elapsed wall time
since the last one, and the clock (60 R373, R377). -/
noncomputable def Clock.enterCycle (ρ : Nat → ℝ) (c : Clock) (w : Wall) : Quantity × Clock :=
  let d := if c.throttled then (c.now ρ w.waited).now ρ c.deadline else c
  let e := d.now ρ w.elapsed
  let f := e.now ρ w.ticked
  (e.lastNow.minus c.lastTick, { f with lastTick := f.lastNow })

/-- The resync test (60 R373, R375). -/
noncomputable def Clock.dueResync (ρ : Nat → ℝ) (c : Clock) : Bool :=
  !c.activeNs.less ρ (.rat 1000000000) || decide (c.resyncCycles ≤ c.since)

/-- The loop's part after the listeners: counters, deadline, drift correction every 256 cycles, resync
(60 R373 to R375). -/
noncomputable def Clock.leaveCycle (ρ : Nat → ℝ) (c : Clock) (w : Wall) : Clock :=
  let d := { c with
    total := c.total + 1
    since := c.since + 1
    deadline := c.deadline.plus c.delay }
  let e := if d.since % 256 = 0 then (d.now ρ w.nudge).nudge ρ else d
  let f := e.now ρ w.check
  if f.dueResync ρ then f.resync ρ w.resync else f

/-- One iteration of the loop of 60 R373: while paused no cycle happens and the pause is counted (60 R376);
otherwise every listener is called once with the rate and the elapsed wall time, the engine, which ignores both,
among them (60 R371). -/
noncomputable def pacedCycle (ρ : Nat → ℝ) (w : Wall) (s : State) : Host.Outcome State Fault Refusal :=
  if !s.cfg.wellFormed then .refused .badConfiguration
  else if s.clock.paused then .next { s with clock := s.clock.now ρ w.waited }
  else
    let entry := s.clock.enterCycle ρ w
    let call : Call := { rate := entry.2.rate, elapsed := entry.1 }
    let t := runListeners Listener.onTick call entry.2.before { s with clock := entry.2 }
    let u := runListeners Listener.onTick call entry.2.after (engineTick t)
    .next { u with clock := u.clock.leaveCycle ρ w }

/-- `run(stop_predicate)` (60 R373, 70 R416), one iteration per element of `walls`: the predicate is tested
before each cycle; a stop may be seen one cycle late (`late`, a draw). -/
noncomputable def runPaced (ρ : Nat → ℝ) (stop : State → Bool) (late : Bool) :
    List Wall → State → Host.Outcome State Fault Refusal
  | [], s => .next s
  | w :: ws, s =>
    if stop s then (if late then pacedCycle ρ w s else .next s)
    else
      match pacedCycle ρ w s with
      | .next t => runPaced ρ stop late ws t
      | .fault f => .fault f
      | .refused r => .refused r

end Sys2Proof.Machine
end

