-- ==== Sys2Proof/WellFormed.lean ====
section
/-!
DEFINITION. When an instruction with an operand is well formed under a configuration: the validation of
30 R110 and R109, check by check.
-/

namespace Sys2Proof

/-- The operand fits the mode's byte width; for a mode with no operand byte it is 0 (30 R110). -/
def Instr.operandFits (i : Instr) (operand : Nat) : Bool :=
  decide (operand < 256 ^ i.operandBytes)

/-- The instruction is registered: a debug extension only when `DEBUG_EXT` is true (47 R314). -/
def Instr.registered (cfg : Config) (i : Instr) : Bool :=
  !i.isDebug || cfg.debugExt

/-- The instruction, with its operand, can be encoded under a configuration that can be built. -/
def Instr.wellFormed (cfg : Config) (i : Instr) (operand : Nat) : Bool :=
  cfg.wellFormed && i.registered cfg && i.operandFits operand

end Sys2Proof
end

