-- ==== Sys2Proof/Safety.lean ====
section
/-!
DEFINITION. What counts as a run's outcome (70 R415) and a launch (70 R406), the tables of the spec that claims
are stated with (classes, cycle counts, flags and registers written, addresses stored to), the predicates on
states that claims use, and the form of "this instruction ends in that state".
-/

namespace Sys2Proof.Machine

/-! ## The end of a run (70 R415) -/

/-- What a run has come to (70 R415). -/
inductive RunOutcome
  | haltedWith (c : HaltCode)
  | faulted (f : Fault)
  | reachedSuccess
  | stoppedByHost
  | running
  deriving DecidableEq, Repr

/-- A normal end of a run: halt code 0, or the success address (70 R415). -/
def RunOutcome.isNormal : RunOutcome → Bool
  | .haltedWith .halted | .reachedSuccess => true
  | .haltedWith _ | .faulted _ | .stoppedByHost | .running => false

/-- The outcome a state shows (70 R415), given the success address of its launch, if it names one: a fault, a halt,
the success address at a quiescent point, or a run that goes on. A tick that both halts and faults (its CPU step,
then the pass after it) ends faulted, so that a fault is never a normal end (DESIGN CHOICE, log 20). The PC compared
with the success address is the one between ticks, before a restore of step (a) or an intercept of the next tick could
set another at the same quiescent point (DESIGN CHOICE, log 23). -/
def State.outcome (s : State) (successPc : Option Word) : RunOutcome :=
  match s.fault, s.halted with
  | some f, _ => .faulted f
  | none, some c => .haltedWith c
  | none, none =>
    if s.quiescent && decide (successPc = some s.pc) then .reachedSuccess else .running

/-- The state shows a normal end. -/
def State.endedWell (s : State) (successPc : Option Word) : Bool := (s.outcome successPc).isNormal

/-- A host stop in a state that shows no other outcome (70 R415, R416). -/
def State.stoppedOutcome (s : State) (successPc : Option Word) : RunOutcome :=
  if s.outcome successPc = .running then .stoppedByHost else s.outcome successPc

/-- The first outcome of a run tick by tick, at most `n` ticks, and the state it occurs in (70 R415); the host stops
the run when its condition holds, one tick late where `late` says so (70 R416, log 17). -/
def runOutcome (successPc : Option Word) (stop : State → Bool) (late : Bool) :
    Nat → State → RunOutcome × State
  | 0, s => (s.outcome successPc, s)
  | n + 1, s =>
    if s.outcome successPc = .running then
      if stop s then
        let t := if late then engineTick s else s
        (t.stoppedOutcome successPc, t)
      else runOutcome successPc stop late n (engineTick s)
    else (s.outcome successPc, s)

/-- The launch premises of 70 R406: no fault, no halt, at a quiescent point. -/
def State.launched (s : State) : Bool := !s.stopped && s.quiescent

/-! ## Classes and cycle counts (30 R104, 40 R141, R154, 70 R411) -/

/-- The class column of 30 R104 with the class function of 40 R141; for the classes S and D the cycle count
of 70 R411. -/
inductive OpClass
  | implied (op : ImpliedOp)
  | read (op : ReadOp)
  | write (op : WriteOp)
  | modify (op : ModifyOp)
  | branch (c : Condition)
  | special (cycles : Nat)
  | debug (cycles : Nat)
  deriving DecidableEq, Repr

/-- The class of an instruction (30 R104). -/
def opClass : Instr → OpClass
  | .ldaImm | .ldaZp | .ldaZpx | .ldaAbs | .ldaAbx | .ldaAby | .ldaIzx | .ldaIzy => .read .lda
  | .ldxImm | .ldxZp | .ldxZpy | .ldxAbs | .ldxAby => .read .ldx
  | .ldyImm | .ldyZp | .ldyZpx | .ldyAbs | .ldyAbx => .read .ldy
  | .staZp | .staZpx | .staAbs | .staAbx | .staAby | .staIzx | .staIzy => .write .sta
  | .stxZp | .stxZpy | .stxAbs => .write .stx
  | .styZp | .styZpx | .styAbs => .write .sty
  | .tax => .implied .tax
  | .tay => .implied .tay
  | .txa => .implied .txa
  | .tya => .implied .tya
  | .tsx => .implied .tsx
  | .txs => .implied .txs
  | .adcImm | .adcZp | .adcZpx | .adcAbs | .adcAbx | .adcAby | .adcIzx | .adcIzy => .read .adc
  | .sbcImm | .sbcZp | .sbcZpx | .sbcAbs | .sbcAbx | .sbcAby | .sbcIzx | .sbcIzy => .read .sbc
  | .andImm | .andZp | .andZpx | .andAbs | .andAbx | .andAby | .andIzx | .andIzy => .read .and
  | .oraImm | .oraZp | .oraZpx | .oraAbs | .oraAbx | .oraAby | .oraIzx | .oraIzy => .read .ora
  | .eorImm | .eorZp | .eorZpx | .eorAbs | .eorAbx | .eorAby | .eorIzx | .eorIzy => .read .eor
  | .cmpImm | .cmpZp | .cmpZpx | .cmpAbs | .cmpAbx | .cmpAby | .cmpIzx | .cmpIzy => .read .cmp
  | .cpxImm | .cpxZp | .cpxAbs => .read .cpx
  | .cpyImm | .cpyZp | .cpyAbs => .read .cpy
  | .bitZp | .bitAbs => .read .bit
  | .aslZp | .aslZpx | .aslAbs | .aslAbx | .aslAcc => .modify .asl
  | .lsrZp | .lsrZpx | .lsrAbs | .lsrAbx | .lsrAcc => .modify .lsr
  | .rolZp | .rolZpx | .rolAbs | .rolAbx | .rolAcc => .modify .rol
  | .rorZp | .rorZpx | .rorAbs | .rorAbx | .rorAcc => .modify .ror
  | .incZp | .incZpx | .incAbs | .incAbx => .modify .inc
  | .decZp | .decZpx | .decAbs | .decAbx => .modify .dec
  | .inx => .implied .inx
  | .iny => .implied .iny
  | .dex => .implied .dex
  | .dey => .implied .dey
  | .pha | .php => .special 3
  | .pla | .plp => .special 4
  | .jmpAbs => .special 3
  | .jmpInd => .special 5
  | .jsr | .rts | .rti => .special 6
  | .brk => .special 7
  | .bcc => .branch .carryClear
  | .bcs => .branch .carrySet
  | .beq => .branch .equal
  | .bmi => .branch .minus
  | .bne => .branch .notEqual
  | .bpl => .branch .plus
  | .bvc => .branch .overflowClear
  | .bvs => .branch .overflowSet
  | .clc => .implied .clc
  | .sec => .implied .sec
  | .cli => .implied .cli
  | .sei => .implied .sei
  | .cld => .implied .cld
  | .sed => .implied .sed
  | .clv => .implied .clv
  | .nop => .implied .nop
  | .halt => .debug 2
  | .test | .trap => .debug 3

/-- The class R row of 40 R154, without the page-crossing cycle. -/
def readCount : Sys2Proof.Mode → Nat
  | .immediate => 2
  | .zeroPage => 3
  | .zeroPageX | .zeroPageY | .absolute | .absoluteX | .absoluteY => 4
  | .indirectX => 6
  | .indirectY => 5
  | .implied | .accumulator | .indirect | .relative | .immediate2 => 0

/-- The class W row of 40 R154. -/
def writeCount : Sys2Proof.Mode → Nat
  | .zeroPage => 3
  | .zeroPageX | .zeroPageY | .absolute => 4
  | .absoluteX | .absoluteY => 5
  | .indirectX | .indirectY => 6
  | .implied | .accumulator | .immediate | .indirect | .relative | .immediate2 => 0

/-- The class M row of 40 R154. -/
def modifyCount : Sys2Proof.Mode → Nat
  | .accumulator => 2
  | .zeroPage => 5
  | .zeroPageX | .absolute => 6
  | .absoluteX => 7
  | .implied | .immediate | .zeroPageY | .absoluteY | .indirect | .indirectX | .indirectY | .relative
  | .immediate2 => 0

/-- How many cycles an instruction takes, its T1 included, from a state whose PC points behind the opcode
(40 R154, R155, 45 R276, 70 R411). -/
def cycleCount (i : Instr) (s : State) : Nat :=
  match opClass i with
  | .implied _ => 2
  | .read _ => readCount i.mode + if s.crossesPage i.mode then 1 else 0
  | .write _ => writeCount i.mode
  | .modify _ => modifyCount i.mode
  | .branch c =>
    if c.holds s.p then (if hiByte s.branchTarget = hiByte (s.pc + 1#16) then 3 else 4) else 2
  | .special n | .debug n => n

/-! ## What an instruction writes (10 R31 to R34, R37; 20 R93) -/

/-- The flags an instruction writes: the column "written by" of 10 R37. -/
def flagsWritten (i : Instr) : List Flag :=
  match opClass i with
  | .read .lda | .read .ldx | .read .ldy | .read .and | .read .ora | .read .eor => [.n, .z]
  | .read .adc | .read .sbc => [.n, .v, .z, .c]
  | .read .cmp | .read .cpx | .read .cpy => [.n, .z, .c]
  | .read .bit => [.n, .v, .z]
  | .write _ => []
  | .modify .asl | .modify .lsr | .modify .rol | .modify .ror => [.n, .z, .c]
  | .modify .inc | .modify .dec => [.n, .z]
  | .implied .tax | .implied .tay | .implied .txa | .implied .tya | .implied .tsx => [.n, .z]
  | .implied .inx | .implied .iny | .implied .dex | .implied .dey => [.n, .z]
  | .implied .txs | .implied .nop => []
  | .implied .clc | .implied .sec => [.c]
  | .implied .cli | .implied .sei => [.i]
  | .implied .cld | .implied .sed => [.d]
  | .implied .clv => [.v]
  | .branch _ | .debug _ => []
  | .special _ =>
    if i = .pla then [.n, .z]
    else if i = .plp ∨ i = .rti then [.c, .z, .i, .d, .b, .r, .v, .n]
    else if i = .brk then [.i]
    else []

/-- A register of the register file, less PC and P. -/
inductive Reg
  | a | x | y | s
  deriving DecidableEq, Repr

/-- The value of a register. -/
def State.reg (s : State) : Reg → Byte
  | .a => s.a
  | .x => s.x
  | .y => s.y
  | .s => s.sp

/-- The registers an instruction writes (10 R31 to R34). -/
def registersWritten (i : Instr) : List Reg :=
  match opClass i with
  | .read .lda | .read .adc | .read .sbc | .read .and | .read .ora | .read .eor => [.a]
  | .read .ldx => [.x]
  | .read .ldy => [.y]
  | .read .cmp | .read .cpx | .read .cpy | .read .bit => []
  | .write _ | .branch _ | .debug _ => []
  | .modify _ => if i.mode = .accumulator then [.a] else []
  | .implied .txa | .implied .tya => [.a]
  | .implied .tax | .implied .tsx | .implied .inx | .implied .dex => [.x]
  | .implied .tay | .implied .iny | .implied .dey => [.y]
  | .implied .txs => [.s]
  | .implied .clc | .implied .sec | .implied .cli | .implied .sei | .implied .cld | .implied .sed
  | .implied .clv | .implied .nop => []
  | .special _ =>
    if i = .pla then [.a, .s] else if i = .jmpAbs ∨ i = .jmpInd then [] else [.s]

/-- The addresses an instruction stores to, from a state whose PC points behind the opcode (20 R93): the
effective address, or the stack slots of its pushes. -/
def storedAt (i : Instr) (s : State) : List Word :=
  match opClass i with
  | .write _ => [s.effectiveAddr i.mode]
  | .modify _ => if i.mode = .accumulator then [] else [s.effectiveAddr i.mode]
  | .read _ | .implied _ | .branch _ | .debug _ => []
  | .special _ =>
    if i = .pha ∨ i = .php then [stackAddr s.sp]
    else if i = .jsr then [stackAddr s.sp, stackAddr (s.sp - 1#8)]
    else if i = .brk then [stackAddr s.sp, stackAddr (s.sp - 1#8), stackAddr (s.sp - 2#8)]
    else []

/-! ## Predicates on states -/

/-- The environment is the default of 00 R8: every address mapped, the RAM bus with no device, a queue
capacity that can be built; and no scheduler task is live. -/
def State.plain (s : State) : Bool :=
  s.cfg.unmapped.isEmpty && s.devices.isEmpty && (s.sched.tasks.all fun t => !t.live) &&
    decide (16 ≤ s.cfg.q)

/-- A running engine in T1, its opcode fetched and nothing queued, in a plain environment: the state `exec`
starts from. PC points behind the opcode. -/
def State.ready (s : State) : Bool := s.plain && !s.stopped && s.queue.isEmpty

/-- A running engine at a quiescent point in a plain environment, with a configuration that can be built. -/
def State.atRest (s : State) : Bool :=
  s.plain && !s.stopped && s.quiescent && s.cfg.wellFormed

/-- NMI is requested: it is latched, or the aggregate line rises (60 R331). -/
def State.nmiRequested (s : State) : Bool := s.nmiLatch || (s.nmiNow && !s.nmiPrev)

/-- IRQ is asserted and not masked (60 R333). -/
def State.irqRequested (s : State) : Bool := s.irqNow && !getFlag s.p .i

/-- Nothing precedes the fetch of the next instruction at this quiescent point (60 R334): no snapshot or
restore, no reset, no NMI, no unmasked IRQ, no intercept at PC. -/
def State.nothingPending (s : State) : Bool :=
  decide (s.snapReq = none) && !s.resetPending && !s.nmiRequested && !s.irqRequested &&
    (s.handlerAt s.pc).isNone

/-- The instruction `i` is fetched next: the engine is at rest, nothing is pending, and the byte at PC is its
opcode. -/
def State.fetches (s : State) (i : Instr) : Prop :=
  s.atRest ∧ s.nothingPending ∧ decodeOpcode s.cfg (s.memByte s.pc) = some i

/-! ## States that claims name -/

/-- The bus cycle that reads memory at an address. -/
def State.readsAt (s : State) (addr : Word) : BusCycle := .read addr (s.memByte addr)

/-- The byte an instruction of class R or M finds at its effective address (30 R101, R102). -/
def State.operandByte (s : State) (m : Sys2Proof.Mode) : Byte := s.memByte (s.effectiveAddr m)

/-- `s` after a whole instruction that transfers no control, apart from its results: PC behind the operand
bytes (10 R35), its cycles counted. -/
def State.after (s : State) (i : Instr) : State :=
  { s with pc := s.pc + BitVec.ofNat 16 i.operandBytes, cycles := s.cycles + cycleCount i s }

/-- `s` after the sampling of the interrupt lines (60 R331), the record of bus cycles begun anew. -/
def State.polled (s : State) : State :=
  { s with nmiLatch := s.nmiRequested, nmiPrev := s.nmiNow, bus := [] }

/-- The state after T1's fetch, before its cycle is counted (40 R133). -/
def State.fetched (s : State) : State :=
  { s.polled with
    pc := s.pc + 1#16
    tmp := { s.tmp with opcode := s.memByte s.pc }
    bus := [s.readsAt s.pc] }

/-- A state with the temporaries, whose values no quiescent point reads (10 R45), set to zero. -/
def State.settled (s : State) : State := { s with tmp := {} }

/-- A state with the temporaries zero and the record of bus cycles empty. -/
def State.silent (s : State) : State := { s with tmp := {}, bus := [] }

/-- `exec i s` answers a next state that is `t` but for the temporaries and the record of bus cycles. -/
def EndsIn (i : Instr) (s t : State) : Prop := ∃ u, exec i s = .next u ∧ u.silent = t.silent

/-- `exec i s` answers a next state that is `t` but for the temporaries; the bus cycles are `t`'s too. -/
def EndsInWithBus (i : Instr) (s t : State) : Prop := ∃ u, exec i s = .next u ∧ u.settled = t.settled

/-- `step s` answers a next state that is `t` but for the temporaries. -/
def StepsTo (s t : State) : Prop := ∃ u, step s = .next u ∧ u.settled = t.settled

/-! ## Code that ignores wall time (60 R378) -/

/-- The test reads neither the rate nor the elapsed wall time. -/
def CodeTest.ignoresTime {ρ : Type} : CodeTest ρ → Bool
  | .elapsedAtLeast _ | .rateAtLeast _ => false
  | .eq _ _ | .less _ _ | .paused => true
  | .not t => t.ignoresTime
  | .and t u => t.ignoresTime && u.ignoresTime

/-- The action chooses by neither argument of `on_tick`. -/
def Action.ignoresTime : Action → Bool
  | .seq f g => f.ignoresTime && g.ignoresTime
  | .ifElse t f g => t.ignoresTime && f.ignoresTime && g.ignoresTime
  | .skip | .schedule _ _ | .unschedule _ | .reschedule _ _ | .newTask _ | .newTaskScheduled _ _ | .requestNmi
  | .requestReset | .setIrq _ _ | .setNmi _ _ | .poke _ _ _ | .free _ => true

/-- No listener's `on_tick` chooses by its arguments. -/
def Clock.listenersIgnoreTime (c : Clock) : Bool :=
  (c.before ++ c.after).all fun l => l.onTick.ignoresTime

/-! ## The queue's invariant (10 R52, 40 R136) -/

/-- Micro-ops that can push a conditional cycle (40 R136). -/
def MicroOp.mayPush : MicroOp → Bool
  | .readSpeculative _ | .branchFetch _ | .branchTake => true
  | _ => false

/-- Micro-ops that end a service sequence (60 R340). -/
def MicroOp.endsService : MicroOp → Bool
  | .vectorHi _ ends => ends
  | .resetEnd => true
  | _ => false

/-- At most 6 entries, and only the last one pushes a conditional cycle or ends a service (40 R136). -/
def tidyQueue (q : List MicroOp) : Bool :=
  decide (q.length ≤ 6) && q.dropLast.all fun op => !op.mayPush && !op.endsService

/-- The invariant of 10 R52 and 40 R136: a tidy queue, a service running exactly while its ending cycle is
queued, and neither queue fault recorded. -/
def State.queueInv (s : State) : Bool :=
  tidyQueue s.queue && decide (s.servicing = s.queue.any MicroOp.endsService) &&
    decide (s.fault ≠ some .queueOverflow) && decide (s.fault ≠ some .queueUnderflow)

end Sys2Proof.Machine
end

