-- ==== Sys2Proof/Certificates/Slice0/Obligations.lean ====
section
/-!
DEFINITION. The statements for the provers. Each docstring names the rules of spec/ it rests on. A result of an
instruction is stated of `exec` from a state in T1 with its opcode fetched (`State.ready`, PC behind the opcode); a
cycle table and a service sequence are stated of `step` from a quiescent point (`State.atRest`).
-/

open Sys2Proof Sys2Proof.Machine

/-! ## Encoding (30_encoding.md) -/

/-- 30 R112: an opcode is undefined or its key encodes to it, no two opcodes decode to one (instruction, mode) pair, and
every registered pair has an opcode, exactly one. -/
def Obligations.RegistryRoundTrip : Prop :=
  ∀ cfg : Config, cfg.wellFormed →
    (∀ b, decodeOpcode cfg b = none ∨
      ∃ k rest, decodeOpcode cfg b = some k ∧ encode cfg k.mnemonic k.mode 0 = .ok (b :: rest)) ∧
    (∀ b c k l, decodeOpcode cfg b = some k → decodeOpcode cfg c = some l →
      k.mnemonic = l.mnemonic → k.mode = l.mode → b = c) ∧
    (∀ m mode k, keyOf cfg m mode = some k →
      k.mnemonic = m ∧ k.mode = mode ∧ ∃! b, decodeOpcode cfg b = some k)

/-- 30 R110, R105: the bytes of every well-formed instruction, with every operand its mode admits, decode to it
and leave what follows; an operand too wide is a validation error, and so is every (instruction, mode) pair that is no
registered instruction's, a debug extension's without `DEBUG_EXT` among them, whatever the operand (DESIGN CHOICE, log 3).
-/
def Obligations.EncodeDecodeRoundTrip : Prop :=
  ∀ (cfg : Config) (operand : Nat),
    (∀ (i : Instr) (rest : List Byte), i.wellFormed cfg operand →
      ∃ bytes, encode cfg i.mnemonic i.mode operand = .ok bytes ∧ bytes.length = i.length ∧
        decode cfg (bytes ++ rest) = .ok (i, operand, rest)) ∧
    (∀ (m : Mnemonic) (mode : Sys2Proof.Mode),
      (∀ i : Instr, i.registered cfg → ¬(i.mnemonic = m ∧ i.mode = mode)) →
        encode cfg m mode operand = .error .unregistered) ∧
    (∀ i : Instr, i.registered cfg → i.operandFits operand = false →
      encode cfg i.mnemonic i.mode operand = .error .operandOutOfRange)

/-- 30 R106, R107: the 105 opcodes that no documented instruction uses are exactly those that do not decode,
less the three of the debug extensions where these are registered. -/
def Obligations.UndocumentedOpcodes : Prop :=
  let bytes : List Nat :=
    [0x02, 0x03, 0x04, 0x07, 0x0B, 0x0C, 0x0F, 0x12, 0x13, 0x14, 0x17, 0x1A, 0x1B, 0x1C, 0x1F, 0x22] ++
    [0x23, 0x27, 0x2B, 0x2F, 0x32, 0x33, 0x34, 0x37, 0x3A, 0x3B, 0x3C, 0x3F, 0x42, 0x43, 0x44, 0x47] ++
    [0x4B, 0x4F, 0x52, 0x53, 0x54, 0x57, 0x5A, 0x5B, 0x5C, 0x5F, 0x62, 0x63, 0x64, 0x67, 0x6B, 0x6F] ++
    [0x72, 0x73, 0x74, 0x77, 0x7A, 0x7B, 0x7C, 0x7F, 0x80, 0x82, 0x83, 0x87, 0x89, 0x8B, 0x8F, 0x92] ++
    [0x93, 0x97, 0x9B, 0x9C, 0x9E, 0x9F, 0xA3, 0xA7, 0xAB, 0xAF, 0xB2, 0xB3, 0xB7, 0xBB, 0xBF, 0xC2] ++
    [0xC3, 0xC7, 0xCB, 0xCF, 0xD2, 0xD3, 0xD4, 0xD7, 0xDA, 0xDB, 0xDC, 0xDF, 0xE2, 0xE3, 0xE7, 0xEB] ++
    [0xEF, 0xF2, 0xF3, 0xF4, 0xF7, 0xFA, 0xFB, 0xFC, 0xFF]
  bytes.length = 105 ∧
    (∀ b : Byte, decodeOpcode { debugExt := false } b = none ↔ b.toNat ∈ bytes) ∧
    (∀ b : Byte, decodeOpcode {} b = none ↔ b.toNat ∈ bytes ∧ b.toNat ∉ [0x02, 0x12, 0x22])

/-- 30 R104, R110 and the examples of 41 to 47: a few words written out from the spec decode to the instruction
and operand they stand for. -/
def Obligations.WordsDecode : Prop :=
  decode {} [0xA9, 0x42] = .ok (.ldaImm, 0x42, []) ∧
  decode {} [0x8C, 0x00, 0x20] = .ok (.styAbs, 0x2000, []) ∧
  decode {} [0x71, 0x80] = .ok (.adcIzy, 0x80, []) ∧
  decode {} [0xFE, 0x34, 0x12] = .ok (.incAbx, 0x1234, []) ∧
  decode {} [0x68] = .ok (.pla, 0, []) ∧
  decode {} [0x6C, 0xFF, 0x02] = .ok (.jmpInd, 0x02FF, []) ∧
  decode {} [0xD0, 0xFB] = .ok (.bne, 0xFB, []) ∧
  decode {} [0xF8] = .ok (.sed, 0, []) ∧
  decode {} [0x12, 0x03, 0x01] = .ok (.test, 0x0103, [])

/-! ## The step and the tick (40_engine.md) -/

/-- 40 R132, R133: where nothing precedes the fetch and the bytes at PC decode to an instruction, the step is
`exec` of it from the fetched state, and the operand's bytes are those that PC then points to. -/
def Obligations.StepRunsTheDecodedInstruction : Prop :=
  ∀ (s : State) (i : Instr) (operand : Nat) (rest : List Byte),
    s.atRest → s.nothingPending →
    decode s.cfg [s.memByte s.pc, s.memByte (s.pc + 1#16), s.memByte (s.pc + 2#16)] =
      .ok (i, operand, rest) →
    step s = exec i s.fetched ∧ s.fetched.ready ∧
      operandToBytes i.operandBytes operand = [s.fetched.operand1, s.fetched.operand2].take i.operandBytes

/-- 40 R130, R131: a step of a running engine is one or more engine ticks, nothing else. A configuration that cannot
be built has neither (30 R109, log 6). -/
def Obligations.StepIsEngineTicks : Prop :=
  ∀ s : State,
    (s.cfg.wellFormed → s.stopped = false → ∃ n : Nat, step s = .next (engineTick^[n + 1] s)) ∧
    (s.cfg.wellFormed = false → step s = .refused .badConfiguration ∧ engineTick s = s)

/-- The model's choice of log 4 (DESIGN CHOICE): a step runs to the next quiescent point, or to the stop. That it can
rests on 40 R136 and R138: every sequence runs to its end before anything else is recognised. -/
def Obligations.StepEndsAtAQuiescentPoint : Prop :=
  ∀ s t : State, s.queueInv → step s = .next t → t.stopped ∨ t.quiescent

/-- 10 R52, 40 R136: every tick and every step keep the queue's invariant, so neither queue fault is ever
raised. -/
def Obligations.QueueInvariantKept : Prop :=
  (∀ s : State, 16 ≤ s.cfg.q → s.queueInv → (engineTick s).queueInv) ∧
    ∀ s t : State, s.queueInv → step s = .next t → t.queueInv

/-- 20 R70: every step keeps memory in its canonical form. -/
def Obligations.MemoryFormKept : Prop :=
  ∀ s t : State, s.mem.wf → step s = .next t → t.mem.wf

/-- 60 R367, 70 R421: no step writes the configuration, the devices, the installed intercepts or the pacing
clock. -/
def Obligations.StepKeepsTheEnvironment : Prop :=
  ∀ s t : State, step s = .next t →
    t.cfg = s.cfg ∧ t.devices = s.devices ∧ t.intercepts = s.intercepts ∧ t.clock = s.clock

/-- 40 R130, R137: a tick of a running engine, under a configuration that can be built (30 R109), counts one cycle,
whatever it does; a halted or faulted engine has no tick, and stays as it is. -/
def Obligations.TickCountsOneCycle : Prop :=
  ∀ s : State,
    (s.cfg.wellFormed → s.halted = none → s.fault = none → (engineTick s).cycles = s.cycles + 1) ∧
    (s.halted ≠ none ∨ s.fault ≠ none → ∀ n : Nat, engineTick^[n] s = s)

/-! ## Reset and power-on (10 R53, R54, 60 R343) -/

/-- The state after reset: P.I is set, no request is pending, the engine is at rest with 7 cycles counted
(10 R53); the register values, PC and memory's contents are the model's choice (log 1, 2). The invariants of this
file hold of it. -/
def Obligations.ResetState : Prop :=
  let r := State.reset
  getFlag r.p .i = true ∧ r.resetPending = false ∧ r.nmiLatch = false ∧ r.servicing = false ∧
    r.queue = [] ∧ r.halted = none ∧ r.fault = none ∧ r.cycles = 7 ∧
    r.a = 0x00#8 ∧ r.x = 0x00#8 ∧ r.y = 0x00#8 ∧ r.sp = 0xFD#8 ∧ r.p = 0x24#8 ∧ r.pc = 0x0000#16 ∧
    r.atRest ∧ r.nothingPending ∧ r.queueInv ∧ r.mem.wf

/-- 60 R343: the reset sequence, cycle by cycle, ahead of NMI and IRQ. Its T1 queues the other six cycles; away
from a quiescent point the request only waits; a halted or faulted engine never takes it. -/
def Obligations.ResetSequence : Prop :=
  ∀ s : State,
    (s.atRest → s.snapReq = none → s.resetPending →
      StepsTo s
        { s.polled with
          resetPending := false
          nmiLatch := false
          svcKind := .reset
          a := s.cfg.resetA
          x := s.cfg.resetX
          y := s.cfg.resetY
          sp := s.cfg.resetS
          p := putFlag s.cfg.resetP .i true
          pc := wordOf (s.memByte 0xFFFD#16) (s.memByte 0xFFFC#16)
          cycles := s.cycles + 7
          bus :=
            [s.readsAt s.pc, s.readsAt s.pc, s.readsAt (stackAddr s.sp), s.readsAt (stackAddr (s.sp - 1#8)),
              s.readsAt (stackAddr (s.sp - 2#8)), s.readsAt 0xFFFC#16, s.readsAt 0xFFFD#16] }) ∧
    (s.atRest → s.snapReq = none → s.resetPending →
      let t := engineTick s
      t.servicing ∧ t.svcKind = .reset ∧ t.resetPending = false ∧ t.nmiLatch = false ∧
        t.queue.length = 6) ∧
    (s.stopped = false → s.quiescent = false → s.resetPending → (engineTick s).resetPending) ∧
    (s.stopped → engineTick s = s)

/-- 10 R54, R53: the first step from power-on is the reset sequence, whatever the registers hold. -/
def Obligations.PowerOnRunsReset : Prop :=
  ∀ (por : Image) (env : State), env.plain → env.cfg.wellFormed →
    ∃ t, step (State.powerOn por env) = .next t ∧
      t.pc = wordOf (env.memByte 0xFFFD#16) (env.memByte 0xFFFC#16) ∧
      t.a = env.cfg.resetA ∧ t.x = env.cfg.resetX ∧ t.y = env.cfg.resetY ∧ t.sp = env.cfg.resetS ∧
      getFlag t.p .i = true ∧ (∀ f, f ≠ .i → getFlag t.p f = getFlag env.cfg.resetP f) ∧
      t.resetPending = false ∧ t.nmiLatch = false ∧ t.servicing = false ∧ t.queue = [] ∧
      t.halted = none ∧ t.fault = none ∧ t.cycles = 7 ∧ t.mem = env.mem

/-! ## Interrupts (60 R331 to R342) -/

/-- 60 R341, R342: the NMI and IRQ sequences, cycle by cycle; T1 queues the other six. NMI is taken when it is
requested and no reset is pending; IRQ when it is asserted with P.I = 0 and neither of the others applies (60
R333, R334). -/
def Obligations.InterruptSequences : Prop :=
  ∀ s : State, s.atRest → s.snapReq = none → s.resetPending = false →
    let status := (s.p &&& 0xEF#8) ||| 0x20#8
    let slot := fun k : Byte => stackAddr (s.sp - k)
    let entered := fun (kind : ServiceKind) (vector : Word) =>
      { ((s.polled.setMem (slot 0#8) (hiByte s.pc)).setMem (slot 1#8) (loByte s.pc)).setMem (slot 2#8)
          status with
        nmiLatch := false
        svcKind := kind
        sp := s.sp - 3#8
        p := putFlag s.p .i true
        pc := wordOf (s.memByte (vector + 1#16)) (s.memByte vector)
        cycles := s.cycles + 7
        bus :=
          [s.readsAt s.pc, s.readsAt s.pc, .write (slot 0#8) (hiByte s.pc),
            .write (slot 1#8) (loByte s.pc), .write (slot 2#8) status, s.readsAt vector,
            s.readsAt (vector + 1#16)] }
    let begins := fun kind : ServiceKind =>
      let t := engineTick s
      t.servicing ∧ t.svcKind = kind ∧ t.nmiLatch = false ∧ t.queue.length = 6
    (s.nmiRequested → begins .nmi ∧ StepsTo s (entered .nmi 0xFFFA#16)) ∧
    (s.nmiRequested = false → s.irqRequested → begins .irq ∧ StepsTo s (entered .irq 0xFFFE#16))

/-- 10 R43, R50, 40 R132 (a): a snapshot or restore request is performed at the quiescent point and costs no
cycle; the same step goes on with the checks. -/
def Obligations.SnapshotsCostNoCycle : Prop :=
  ∀ s : State, s.atRest →
    (s.snapReq = some .capture →
      step s = step { s with snapReq := none, captured := some ⟨s.a, s.x, s.y, s.sp, s.pc, s.p⟩ }) ∧
    ∀ image : Image, s.snapReq = some (.restore image) →
      step s =
        step
          { s with
            snapReq := none, a := image.a, x := image.x, y := image.y, sp := image.s, pc := image.pc
            p := image.p }

/-- 20 R84, 60 R335: an intercept at PC runs when nothing precedes it; answering false, it ends the tick with no
bus access and the engine still quiescent; answering true, the fetch proceeds from what it left. Its answer is its
test of the state its code left (log 10). -/
def Obligations.InterceptAtFetch : Prop :=
  ∀ (s : State) (h : Handler), s.atRest → s.snapReq = none → s.resetPending = false →
    s.nmiRequested = false → s.irqRequested = false → s.handlerAt s.pc = some h →
    let t := (runHandler h s.polled).1
    let proceeds := (runHandler h s.polled).2
    (proceeds = false → s.cfg.phase = .beforeCpu →
      step s = .next { t with cycles := s.cycles + 1 } ∧ t.bus = [] ∧ t.quiescent) ∧
    (proceeds = true → t.plain → t.fault = none →
      ∀ i, decodeOpcode t.cfg (t.memByte t.pc) = some i →
        step s =
          exec i
            { t with
              pc := t.pc + 1#16
              tmp := { t.tmp with opcode := t.memByte t.pc }
              bus := [t.readsAt t.pc] })

/-! ## Faults (60 R320 to R323) -/

/-- 60 R321: an opcode that is not registered is a DecodeError in T1, after its read, with PC advanced and no
micro-op queued. -/
def Obligations.UnregisteredOpcodeFaults : Prop :=
  ∀ s : State, s.atRest → s.nothingPending → decodeOpcode s.cfg (s.memByte s.pc) = none →
    StepsTo s
      { s.polled with
        pc := s.pc + 1#16
        fault := some (.decodeError (s.memByte s.pc) s.pc)
        cycles := s.cycles + 1
        bus := [s.readsAt s.pc] }

/-- 60 R320, R323, 20 R83: a cycle whose access is at an unmapped address records BusUnmapped and counts its cycle;
registers, memory and the earlier cycles' effects stay. That the micro-op which faulted stays at the head of the
queue, and that a faulting fetch keeps the lines sampled in its tick, is read from R320 (DEDUCED, log 13). -/
def Obligations.UnmappedAccessFaults : Prop :=
  ∀ (s : State) (addr : Word), s.cfg.wellFormed → s.stopped = false →
    (∀ t ∈ s.sched.tasks, t.live = false) → s.mapped addr = false →
    (∀ op rest, s.queue = op :: rest →
      (op.access s = .read addr →
        engineTick s = { s with fault := some (.busUnmapped addr .read), cycles := s.cycles + 1 }) ∧
      ∀ v, op.access s = .write addr v →
        engineTick s = { s with fault := some (.busUnmapped addr .write), cycles := s.cycles + 1 }) ∧
    (s.quiescent → s.nothingPending → s.pc = addr →
      engineTick s =
        { s.polled with fault := some (.busUnmapped addr .read), cycles := s.cycles + 1 })

/-- 41 to 47, 60 R326: on a bus of memory alone, whatever part of it is mapped, the only fault an instruction
raises is BusUnmapped, at an address that is not mapped. -/
def Obligations.InstructionsRaiseBusFaultsOnly : Prop :=
  ∀ (i : Instr) (s t : State) (f : Fault),
    s.stopped = false → s.queue = [] → 16 ≤ s.cfg.q → s.devices = [] →
    (∀ u ∈ s.sched.tasks, u.live = false) →
    exec i s = .next t → t.fault = some f →
    ∃ addr kind, f = .busUnmapped addr kind ∧ s.mapped addr = false

/-! ## Cycle tables (40 R142 to R153, 45 R276) -/

/-- 40 R142, R153: class I and the accumulator form of class M. -/
def Obligations.ImpliedAndAccumulatorCycles : Prop :=
  ∀ (s : State) (i : Instr), s.fetches i →
    let last :=
      { s.polled with
        pc := s.pc + 1#16
        cycles := s.cycles + 2
        bus := [s.readsAt s.pc, s.readsAt (s.pc + 1#16)] }
    (∀ op, opClass i = .implied op → StepsTo s (op.apply last)) ∧
    ∀ op, opClass i = .modify op → i.mode = .accumulator →
      StepsTo s { last with a := (op.result s.a s.p).1, p := (op.result s.a s.p).2 }

/-- 40 R143, R144, R145, R147: class R in the modes IMM, ZP, ABS, ZPX, ZPY and IZX. -/
def Obligations.ReadCycles : Prop :=
  ∀ (s : State) (i : Instr) (op : ReadOp), s.fetches i → opClass i = .read op →
    let b1 := s.memByte (s.pc + 1#16)
    let b2 := s.memByte (s.pc + 2#16)
    let ends := fun (length : Word) (v : Byte) (later : List BusCycle) =>
      StepsTo s
        (op.apply v
          { s.polled with
            pc := s.pc + length
            cycles := s.cycles + 2 + later.length
            bus := [s.readsAt s.pc, s.readsAt (s.pc + 1#16)] ++ later })
    let readAt := fun (length : Word) (addr : Word) (earlier : List BusCycle) =>
      ends length (s.memByte addr) (earlier ++ [s.readsAt addr])
    let zpIndexed := fun index : Byte => readAt 2#16 (zeroPage (b1 + index)) [s.readsAt (zeroPage b1)]
    let ptr := b1 + s.x
    (i.mode = .immediate → ends 2#16 b1 []) ∧
    (i.mode = .zeroPage → readAt 2#16 (zeroPage b1) []) ∧
    (i.mode = .absolute → readAt 3#16 (wordOf b2 b1) [s.readsAt (s.pc + 2#16)]) ∧
    (i.mode = .zeroPageX → zpIndexed s.x) ∧
    (i.mode = .zeroPageY → zpIndexed s.y) ∧
    (i.mode = .indirectX →
      readAt 2#16 (wordOf (s.memByte (zeroPage (ptr + 1#8))) (s.memByte (zeroPage ptr)))
        [s.readsAt (zeroPage b1), s.readsAt (zeroPage ptr), s.readsAt (zeroPage (ptr + 1#8))])

/-- 40 R146, R148: class R in the modes ABX, ABY and IZY: a read at the unadjusted high byte, and one more at the
corrected one when the index addition carries. -/
def Obligations.PageCrossingReadCycles : Prop :=
  ∀ (s : State) (i : Instr) (op : ReadOp), s.fetches i → opClass i = .read op →
    let b1 := s.memByte (s.pc + 1#16)
    let b2 := s.memByte (s.pc + 2#16)
    let ends := fun (length : Word) (v : Byte) (later : List BusCycle) =>
      StepsTo s
        (op.apply v
          { s.polled with
            pc := s.pc + length
            cycles := s.cycles + 2 + later.length
            bus := [s.readsAt s.pc, s.readsAt (s.pc + 1#16)] ++ later })
    let indexed := fun (length : Word) (hi lo index : Byte) (earlier : List BusCycle) =>
      let wrong := wordOf hi (lo + index)
      let right := wordOf (hi + 1#8) (lo + index)
      if 256 ≤ lo.toNat + index.toNat then
        ends length (s.memByte right) (earlier ++ [s.readsAt wrong, s.readsAt right])
      else ends length (s.memByte wrong) (earlier ++ [s.readsAt wrong])
    (i.mode = .absoluteX → indexed 3#16 b2 b1 s.x [s.readsAt (s.pc + 2#16)]) ∧
    (i.mode = .absoluteY → indexed 3#16 b2 b1 s.y [s.readsAt (s.pc + 2#16)]) ∧
    (i.mode = .indirectY →
      indexed 2#16 (s.memByte (zeroPage (b1 + 1#8))) (s.memByte (zeroPage b1)) s.y
        [s.readsAt (zeroPage b1), s.readsAt (zeroPage (b1 + 1#8))])

/-- 40 R149, R150, R151: class W in all its modes: one write, and in ABX, ABY and IZY always a read at the
unadjusted high byte before it. -/
def Obligations.WriteCycles : Prop :=
  ∀ (s : State) (i : Instr) (op : WriteOp), s.fetches i → opClass i = .write op →
    let b1 := s.memByte (s.pc + 1#16)
    let b2 := s.memByte (s.pc + 2#16)
    let ends := fun (length : Word) (addr : Word) (reads : List BusCycle) =>
      StepsTo s
        { s.polled.setMem addr (op.value s) with
          pc := s.pc + length
          cycles := s.cycles + 3 + reads.length
          bus := [s.readsAt s.pc, s.readsAt (s.pc + 1#16)] ++ reads ++ [.write addr (op.value s)] }
    let indexed := fun (length : Word) (hi lo index : Byte) (earlier : List BusCycle) =>
      ends length
        (wordOf (if 256 ≤ lo.toNat + index.toNat then hi + 1#8 else hi) (lo + index))
        (earlier ++ [s.readsAt (wordOf hi (lo + index))])
    let ptr := b1 + s.x
    (i.mode = .zeroPage → ends 2#16 (zeroPage b1) []) ∧
    (i.mode = .zeroPageX → ends 2#16 (zeroPage (b1 + s.x)) [s.readsAt (zeroPage b1)]) ∧
    (i.mode = .zeroPageY → ends 2#16 (zeroPage (b1 + s.y)) [s.readsAt (zeroPage b1)]) ∧
    (i.mode = .absolute → ends 3#16 (wordOf b2 b1) [s.readsAt (s.pc + 2#16)]) ∧
    (i.mode = .absoluteX → indexed 3#16 b2 b1 s.x [s.readsAt (s.pc + 2#16)]) ∧
    (i.mode = .absoluteY → indexed 3#16 b2 b1 s.y [s.readsAt (s.pc + 2#16)]) ∧
    (i.mode = .indirectX →
      ends 2#16 (wordOf (s.memByte (zeroPage (ptr + 1#8))) (s.memByte (zeroPage ptr)))
        [s.readsAt (zeroPage b1), s.readsAt (zeroPage ptr), s.readsAt (zeroPage (ptr + 1#8))]) ∧
    (i.mode = .indirectY →
      indexed 2#16 (s.memByte (zeroPage (b1 + 1#8))) (s.memByte (zeroPage b1)) s.y
        [s.readsAt (zeroPage b1), s.readsAt (zeroPage (b1 + 1#8))])

/-- 40 R152: class M on memory: a read, the unmodified byte written back, then the transformed byte, with the
flags. -/
def Obligations.ModifyCycles : Prop :=
  ∀ (s : State) (i : Instr) (op : ModifyOp), s.fetches i → opClass i = .modify op →
    let b1 := s.memByte (s.pc + 1#16)
    let b2 := s.memByte (s.pc + 2#16)
    let ends := fun (length : Word) (addr : Word) (earlier : List BusCycle) =>
      let data := s.memByte addr
      let result := op.result data s.p
      StepsTo s
        { (s.polled.setMem addr data).setMem addr result.1 with
          p := result.2
          pc := s.pc + length
          cycles := s.cycles + 5 + earlier.length
          bus :=
            [s.readsAt s.pc, s.readsAt (s.pc + 1#16)] ++ earlier ++
              [s.readsAt addr, .write addr data, .write addr result.1] }
    let hi := if 256 ≤ b1.toNat + s.x.toNat then b2 + 1#8 else b2
    (i.mode = .zeroPage → ends 2#16 (zeroPage b1) []) ∧
    (i.mode = .zeroPageX → ends 2#16 (zeroPage (b1 + s.x)) [s.readsAt (zeroPage b1)]) ∧
    (i.mode = .absolute → ends 3#16 (wordOf b2 b1) [s.readsAt (s.pc + 2#16)]) ∧
    (i.mode = .absoluteX →
      ends 3#16 (wordOf hi (b1 + s.x)) [s.readsAt (s.pc + 2#16), s.readsAt (wordOf b2 (b1 + s.x))])

/-- 45 R276: the branch sequence: 2 cycles not taken, 3 taken in the page of the next instruction, 4 taken to
another page. -/
def Obligations.BranchCycles : Prop :=
  ∀ (s : State) (i : Instr) (c : Condition), s.fetches i → opClass i = .branch c →
    let following := s.pc + 2#16
    let target := following + signExtend16 (s.memByte (s.pc + 1#16))
    let ends := fun (pc : Word) (later : List BusCycle) =>
      StepsTo s
        { s.polled with
          pc := pc
          cycles := s.cycles + 2 + later.length
          bus := [s.readsAt s.pc, s.readsAt (s.pc + 1#16)] ++ later }
    if c.holds s.p then
      if hiByte target = hiByte following then ends target [s.readsAt following]
      else
        ends target [s.readsAt following, s.readsAt (wordOf (hiByte following) (loByte target))]
    else ends following []

/-- 40 R154, R155: the cycle counts of the classes I, R, W and M by mode, from one fetch to the next. -/
def Obligations.CycleCounts : Prop :=
  ∀ (s : State) (i : Instr), s.fetches i →
    let takes := fun n : Nat => ∃ t, step s = .next t ∧ t.cycles = s.cycles + n ∧ t.quiescent
    (∀ op, opClass i = .implied op → takes 2) ∧
    (∀ op, opClass i = .read op →
      takes (readCount i.mode + if s.fetched.crossesPage i.mode then 1 else 0)) ∧
    (∀ op, opClass i = .write op → takes (writeCount i.mode)) ∧
    ∀ op, opClass i = .modify op → takes (modifyCount i.mode)

/-! ## Loads, stores, transfers (41_load_store_transfer.md) -/

/-- 41 R200, R201, R202: LDA, LDX and LDY in every mode. -/
def Obligations.LoadsWriteTheRegister : Prop :=
  ∀ s : State, s.ready →
    (∀ i ∈ [Instr.ldaImm, .ldaZp, .ldaZpx, .ldaAbs, .ldaAbx, .ldaAby, .ldaIzx, .ldaIzy],
      EndsIn i s { s.after i with a := s.operandByte i.mode, p := putNZ s.p (s.operandByte i.mode) }) ∧
    (∀ i ∈ [Instr.ldxImm, .ldxZp, .ldxZpy, .ldxAbs, .ldxAby],
      EndsIn i s { s.after i with x := s.operandByte i.mode, p := putNZ s.p (s.operandByte i.mode) }) ∧
    (∀ i ∈ [Instr.ldyImm, .ldyZp, .ldyZpx, .ldyAbs, .ldyAbx],
      EndsIn i s { s.after i with y := s.operandByte i.mode, p := putNZ s.p (s.operandByte i.mode) })

/-- 41 R203, R204, R205: STA, STX and STY in every mode store the register at the effective address and change
nothing else. -/
def Obligations.StoresWriteMemory : Prop :=
  ∀ s : State, s.ready →
    (∀ i ∈ [Instr.staZp, .staZpx, .staAbs, .staAbx, .staAby, .staIzx, .staIzy],
      EndsIn i s ((s.after i).setMem (s.effectiveAddr i.mode) s.a)) ∧
    (∀ i ∈ [Instr.stxZp, .stxZpy, .stxAbs],
      EndsIn i s ((s.after i).setMem (s.effectiveAddr i.mode) s.x)) ∧
    (∀ i ∈ [Instr.styZp, .styZpx, .styAbs],
      EndsIn i s ((s.after i).setMem (s.effectiveAddr i.mode) s.y))

/-- 41 R206 to R211: the six transfers; TXS writes no flag. -/
def Obligations.TransfersMoveTheRegister : Prop :=
  ∀ s : State, s.ready →
    EndsIn .tax s { s.after .tax with x := s.a, p := putNZ s.p s.a } ∧
    EndsIn .tay s { s.after .tay with y := s.a, p := putNZ s.p s.a } ∧
    EndsIn .txa s { s.after .txa with a := s.x, p := putNZ s.p s.x } ∧
    EndsIn .tya s { s.after .tya with a := s.y, p := putNZ s.p s.y } ∧
    EndsIn .tsx s { s.after .tsx with x := s.sp, p := putNZ s.p s.sp } ∧
    EndsIn .txs s { s.after .txs with sp := s.x }

/-! ## Arithmetic and logic (42_arith_logic.md) -/

/-- 42 R220: binary ADC in every mode. -/
def Obligations.AdcBinaryAdds : Prop :=
  ∀ i ∈ [Instr.adcImm, .adcZp, .adcZpx, .adcAbs, .adcAbx, .adcAby, .adcIzx, .adcIzy],
  ∀ s : State, s.ready → getFlag s.p .d = false →
    let v := s.operandByte i.mode
    let sum := s.a.toNat + v.toNat + (getFlag s.p .c).toNat
    let r : Byte := BitVec.ofNat 8 (sum % 256)
    ∃ t, exec i s = .next t ∧ t.silent = { s.after i with a := r, p := t.p }.silent ∧
      getFlag t.p .c = decide (255 < sum) ∧
      getFlag t.p .v = decide (((s.a ^^^ r) &&& (v ^^^ r) &&& 0x80#8) ≠ 0#8) ∧
      getFlag t.p .n = r.getLsbD 7 ∧ getFlag t.p .z = decide (r = 0#8) ∧
      ∀ f ∈ [Flag.i, .d, .b, .r], getFlag t.p f = getFlag s.p f

/-- 42 R221: decimal ADC in every mode. -/
def Obligations.AdcDecimalAdds : Prop :=
  ∀ i ∈ [Instr.adcImm, .adcZp, .adcZpx, .adcAbs, .adcAbx, .adcAby, .adcIzx, .adcIzy],
  ∀ s : State, s.ready → getFlag s.p .d = true →
    let v := s.operandByte i.mode
    let c := (getFlag s.p .c).toNat
    let bin := s.a.toNat + v.toNat + c
    let al0 := (s.a &&& 0x0F#8).toNat + (v &&& 0x0F#8).toNat + c
    let al := if 0x0A ≤ al0 then (al0 + 6) % 16 + 0x10 else al0
    let t1 := (s.a &&& 0xF0#8).toNat + (v &&& 0xF0#8).toNat + al
    let ts : Int := (s.a &&& 0xF0#8).toInt + (v &&& 0xF0#8).toInt + al
    let t2 := if 0xA0 ≤ t1 then t1 + 0x60 else t1
    ∃ t, exec i s = .next t ∧
      t.silent = { s.after i with a := BitVec.ofNat 8 (t2 % 256), p := t.p }.silent ∧
      getFlag t.p .n = t1.testBit 7 ∧ getFlag t.p .v = decide (ts < -128 ∨ 127 < ts) ∧
      getFlag t.p .c = decide (0x100 ≤ t2) ∧ getFlag t.p .z = decide (bin % 256 = 0) ∧
      ∀ f ∈ [Flag.i, .d, .b, .r], getFlag t.p f = getFlag s.p f

/-- 42 R222, R223: SBC in every mode; the flags are those of the binary difference in both modes. -/
def Obligations.SbcSubtracts : Prop :=
  ∀ i ∈ [Instr.sbcImm, .sbcZp, .sbcZpx, .sbcAbs, .sbcAbx, .sbcAby, .sbcIzx, .sbcIzy],
  ∀ s : State, s.ready →
    let v := s.operandByte i.mode
    let c : Int := (getFlag s.p .c).toNat
    let diff : Int := s.a.toNat - v.toNat - (1 - c)
    let r : Byte := BitVec.ofInt 8 (diff % 256)
    let al0 : Int := (s.a &&& 0x0F#8).toNat - (v &&& 0x0F#8).toNat + c - 1
    let al : Int := if al0 < 0 then (al0 - 6) % 16 - 0x10 else al0
    let t1 : Int := (s.a &&& 0xF0#8).toNat - (v &&& 0xF0#8).toNat + al
    let t2 : Int := if t1 < 0 then t1 - 0x60 else t1
    let result : Byte := if getFlag s.p .d then BitVec.ofInt 8 (t2 % 256) else r
    ∃ t, exec i s = .next t ∧ t.silent = { s.after i with a := result, p := t.p }.silent ∧
      getFlag t.p .c = decide (0 ≤ diff) ∧
      getFlag t.p .v = decide (((s.a ^^^ v) &&& (s.a ^^^ r) &&& 0x80#8) ≠ 0#8) ∧
      getFlag t.p .n = r.getLsbD 7 ∧ getFlag t.p .z = decide (r = 0#8) ∧
      ∀ f ∈ [Flag.i, .d, .b, .r], getFlag t.p f = getFlag s.p f

/-- 42 R220, R222 ("conventional carry/overflow derivation"): V says that the signed result does not fit a byte,
C what the unsigned sum carries out; binary SBC is binary ADC with `v` replaced by `v xor 0xFF`. -/
def Obligations.CarryAndOverflowDerivation : Prop :=
  ∀ a v p : Byte,
    let c : Int := (getFlag p .c).toNat
    let sum := a.toInt + v.toInt + c
    let diff := a.toInt - v.toInt - (1 - c)
    sbcBinary a v p = adcBinary a (v ^^^ 0xFF#8) p ∧
    getFlag (adcBinary a v p).2 .v = decide (sum < -128 ∨ 127 < sum) ∧
    getFlag (sbcBinary a v p).2 .v = decide (diff < -128 ∨ 127 < diff) ∧
    (getFlag (adcBinary a v p).2 .v = false → (adcBinary a v p).1.toInt = sum) ∧
    (getFlag (sbcBinary a v p).2 .v = false → (sbcBinary a v p).1.toInt = diff) ∧
    (adcBinary a v p).1.toNat + 256 * (getFlag (adcBinary a v p).2 .c).toNat =
      a.toNat + v.toNat + (getFlag p .c).toNat

/-- 42 R221, R223: on valid BCD bytes, decimal ADC and SBC are addition and subtraction of two-digit decimal
numbers, with the decimal carry and borrow in C. -/
def Obligations.DecimalModeIsDecimal : Prop :=
  ∀ (m n : Nat) (p : Byte), m < 100 → n < 100 → getFlag p .d = true →
    let bcd := fun k : Nat => (BitVec.ofNat 8 (k / 10 * 16 + k % 10) : Byte)
    let c := (getFlag p .c).toNat
    (adcByte (bcd m) (bcd n) p).1 = bcd ((m + n + c) % 100) ∧
    getFlag (adcByte (bcd m) (bcd n) p).2 .c = decide (100 ≤ m + n + c) ∧
    (sbcByte (bcd m) (bcd n) p).1 = bcd ((100 + m - n - (1 - c)) % 100) ∧
    getFlag (sbcByte (bcd m) (bcd n) p).2 .c = decide (n + (1 - c) ≤ m)

/-- 42 R224, R225, R226: AND, ORA and EOR in every mode. -/
def Obligations.LogicCombinesWithA : Prop :=
  ∀ s : State, s.ready →
    (∀ i ∈ [Instr.andImm, .andZp, .andZpx, .andAbs, .andAbx, .andAby, .andIzx, .andIzy],
      let r := s.a &&& s.operandByte i.mode
      EndsIn i s { s.after i with a := r, p := putNZ s.p r }) ∧
    (∀ i ∈ [Instr.oraImm, .oraZp, .oraZpx, .oraAbs, .oraAbx, .oraAby, .oraIzx, .oraIzy],
      let r := s.a ||| s.operandByte i.mode
      EndsIn i s { s.after i with a := r, p := putNZ s.p r }) ∧
    (∀ i ∈ [Instr.eorImm, .eorZp, .eorZpx, .eorAbs, .eorAbx, .eorAby, .eorIzx, .eorIzy],
      let r := s.a ^^^ s.operandByte i.mode
      EndsIn i s { s.after i with a := r, p := putNZ s.p r })

/-- 42 R227 to R230: CMP, CPX and CPY in every mode, and BIT in both. -/
def Obligations.ComparesWriteFlagsOnly : Prop :=
  ∀ s : State, s.ready →
    let compared := fun (i : Instr) (r : Byte) =>
      let v := s.operandByte i.mode
      let d : Byte := BitVec.ofInt 8 ((r.toNat - v.toNat : Int) % 256)
      EndsIn i s
        { s.after i with p := putNZ (putFlag s.p .c (decide (v.toNat ≤ r.toNat))) d }
    (∀ i ∈ [Instr.cmpImm, .cmpZp, .cmpZpx, .cmpAbs, .cmpAbx, .cmpAby, .cmpIzx, .cmpIzy],
      compared i s.a) ∧
    (∀ i ∈ [Instr.cpxImm, .cpxZp, .cpxAbs], compared i s.x) ∧
    (∀ i ∈ [Instr.cpyImm, .cpyZp, .cpyAbs], compared i s.y) ∧
    ∀ i ∈ [Instr.bitZp, .bitAbs],
      let v := s.operandByte i.mode
      let p1 := putFlag s.p .z (decide (s.a &&& v = 0#8))
      EndsIn i s
        { s.after i with p := putFlag (putFlag p1 .n (v.getLsbD 7)) .v (v.getLsbD 6) }

/-! ## Shifts, increments (43_rmw_incdec.md) -/

/-- 43 R240 to R243: ASL, LSR, ROL and ROR on the accumulator and on memory in every mode. -/
def Obligations.ShiftsAndRotates : Prop :=
  ∀ s : State, s.ready →
    let c := (getFlag s.p .c).toNat
    let onA := fun (i : Instr) (h : Nat → Nat) (out : Nat) =>
      let r : Byte := BitVec.ofNat 8 (h s.a.toNat)
      EndsIn i s { s.after i with a := r, p := putNZ (putFlag s.p .c (s.a.getLsbD out)) r }
    let onMemory := fun (i : Instr) (h : Nat → Nat) (out : Nat) =>
      let v := s.operandByte i.mode
      let r : Byte := BitVec.ofNat 8 (h v.toNat)
      EndsIn i s
        { (s.after i).setMem (s.effectiveAddr i.mode) r with
          p := putNZ (putFlag s.p .c (v.getLsbD out)) r }
    let asl := fun v => v * 2 % 256
    let lsr := fun v => v / 2
    let rol := fun v => (v * 2 + c) % 256
    let ror := fun v => v / 2 + 128 * c
    onA .aslAcc asl 7 ∧ onA .lsrAcc lsr 0 ∧ onA .rolAcc rol 7 ∧ onA .rorAcc ror 0 ∧
    (∀ i ∈ [Instr.aslZp, .aslZpx, .aslAbs, .aslAbx], onMemory i asl 7) ∧
    (∀ i ∈ [Instr.lsrZp, .lsrZpx, .lsrAbs, .lsrAbx], onMemory i lsr 0) ∧
    (∀ i ∈ [Instr.rolZp, .rolZpx, .rolAbs, .rolAbx], onMemory i rol 7) ∧
    ∀ i ∈ [Instr.rorZp, .rorZpx, .rorAbs, .rorAbx], onMemory i ror 0

/-- 43 R244 to R249: INC and DEC in every mode, and INX, INY, DEX, DEY; C and V stay. -/
def Obligations.IncrementsAndDecrements : Prop :=
  ∀ s : State, s.ready →
    (∀ i ∈ [Instr.incZp, .incZpx, .incAbs, .incAbx],
      let r := s.operandByte i.mode + 1#8
      EndsIn i s { (s.after i).setMem (s.effectiveAddr i.mode) r with p := putNZ s.p r }) ∧
    (∀ i ∈ [Instr.decZp, .decZpx, .decAbs, .decAbx],
      let r := s.operandByte i.mode - 1#8
      EndsIn i s { (s.after i).setMem (s.effectiveAddr i.mode) r with p := putNZ s.p r }) ∧
    EndsIn .inx s { s.after .inx with x := s.x + 1#8, p := putNZ s.p (s.x + 1#8) } ∧
    EndsIn .iny s { s.after .iny with y := s.y + 1#8, p := putNZ s.p (s.y + 1#8) } ∧
    EndsIn .dex s { s.after .dex with x := s.x - 1#8, p := putNZ s.p (s.x - 1#8) } ∧
    EndsIn .dey s { s.after .dey with y := s.y - 1#8, p := putNZ s.p (s.y - 1#8) }

/-! ## Stack (44_stack.md) -/

/-- 44 R260 to R263: PHA, PHP, PLA and PLP, cycle by cycle; the pushed P has B = 1 and R = 1, and PLP loads all
eight bits of P. -/
def Obligations.StackInstructions : Prop :=
  ∀ s : State, s.ready →
    let pushed := fun (i : Instr) (v : Byte) =>
      EndsInWithBus i s
        { s.setMem (stackAddr s.sp) v with
          sp := s.sp - 1#8
          cycles := s.cycles + 3
          bus := s.bus ++ [s.readsAt s.pc, .write (stackAddr s.sp) v] }
    let slot := stackAddr (s.sp + 1#8)
    let v := s.memByte slot
    let pulled :=
      { s with
        sp := s.sp + 1#8
        cycles := s.cycles + 4
        bus := s.bus ++ [s.readsAt s.pc, s.readsAt (stackAddr s.sp), s.readsAt slot] }
    pushed .pha s.a ∧ pushed .php (s.p ||| 0x30#8) ∧
    EndsInWithBus .pla s { pulled with a := v, p := putNZ s.p v } ∧
    EndsInWithBus .plp s { pulled with p := v }

/-! ## Control flow (45_control_flow.md) -/

/-- 45 R270, R271: JMP absolute and JMP indirect, cycle by cycle, the latter with the page wrap. -/
def Obligations.JumpsSetPc : Prop :=
  ∀ s : State, s.ready →
    let b1 := s.memByte s.pc
    let b2 := s.memByte (s.pc + 1#16)
    let atLo := wordOf b2 b1
    let atHi := wordOf b2 (b1 + 1#8)
    let operands := s.bus ++ [s.readsAt s.pc, s.readsAt (s.pc + 1#16)]
    EndsInWithBus .jmpAbs s
      { s with pc := wordOf b2 b1, cycles := s.cycles + 3, bus := operands } ∧
    EndsInWithBus .jmpInd s
      { s with
        pc := wordOf (s.memByte atHi) (s.memByte atLo)
        cycles := s.cycles + 5
        bus := operands ++ [s.readsAt atLo, s.readsAt atHi] }

/-- 45 R272, R273: JSR and RTS, cycle by cycle; JSR reads the target's high byte after the pushes. -/
def Obligations.JsrAndRts : Prop :=
  ∀ s : State, s.ready →
    let ret := s.pc + 1#16
    let down := fun k : Byte => stackAddr (s.sp - k)
    let up := fun k : Byte => stackAddr (s.sp + k)
    let pushed := (s.setMem (down 0#8) (hiByte ret)).setMem (down 1#8) (loByte ret)
    let pulled := wordOf (s.memByte (up 2#8)) (s.memByte (up 1#8))
    EndsInWithBus .jsr s
      { pushed with
        sp := s.sp - 2#8
        pc := wordOf (pushed.memByte ret) (s.memByte s.pc)
        cycles := s.cycles + 6
        bus :=
          s.bus ++
            [s.readsAt s.pc, s.readsAt (down 0#8), .write (down 0#8) (hiByte ret),
              .write (down 1#8) (loByte ret), pushed.readsAt ret] } ∧
    EndsInWithBus .rts s
      { s with
        sp := s.sp + 2#8
        pc := pulled + 1#16
        cycles := s.cycles + 6
        bus :=
          s.bus ++
            [s.readsAt s.pc, s.readsAt (up 0#8), s.readsAt (up 1#8), s.readsAt (up 2#8),
              s.readsAt pulled] }

/-- 45 R274: RTI, cycle by cycle: all of P, then PC. -/
def Obligations.RtiRestoresStatusAndPc : Prop :=
  ∀ s : State, s.ready →
    let slot := fun k : Byte => stackAddr (s.sp + k)
    EndsInWithBus .rti s
      { s with
        sp := s.sp + 3#8
        p := s.memByte (slot 1#8)
        pc := wordOf (s.memByte (slot 3#8)) (s.memByte (slot 2#8))
        cycles := s.cycles + 6
        bus :=
          s.bus ++
            [s.readsAt s.pc, s.readsAt (slot 0#8), s.readsAt (slot 1#8), s.readsAt (slot 2#8),
              s.readsAt (slot 3#8)] }

/-- 45 R275: BRK, cycle by cycle: the address after the padding byte and P with B = 1 and R = 1 pushed, P.I set,
PC from the vector, no service begun. -/
def Obligations.BrkEntersTheHandler : Prop :=
  ∀ s : State, s.ready →
    let ret := s.pc + 1#16
    let slot := fun k : Byte => stackAddr (s.sp - k)
    let status := s.p ||| 0x30#8
    EndsInWithBus .brk s
      { ((s.setMem (slot 0#8) (hiByte ret)).setMem (slot 1#8) (loByte ret)).setMem (slot 2#8) status with
        sp := s.sp - 3#8
        p := putFlag s.p .i true
        pc := wordOf (s.memByte 0xFFFF#16) (s.memByte 0xFFFE#16)
        cycles := s.cycles + 7
        bus :=
          s.bus ++
            [s.readsAt s.pc, .write (slot 0#8) (hiByte ret), .write (slot 1#8) (loByte ret),
              .write (slot 2#8) status, s.readsAt 0xFFFE#16, s.readsAt 0xFFFF#16] }

/-- 45 R277 to R284: each branch tests its flag, and goes to the signed offset from the next instruction or to
the next instruction; no flag is written. -/
def Obligations.BranchesTestTheirFlag : Prop :=
  ∀ s : State, s.ready →
    let following := s.pc + 1#16
    let target := following + signExtend16 (s.memByte s.pc)
    let branches := fun (i : Instr) (taken : Bool) =>
      EndsIn i s
        { s with
          pc := if taken then target else following
          cycles :=
            s.cycles + if taken then (if hiByte target = hiByte following then 3 else 4) else 2 }
    branches .bcc (!getFlag s.p .c) ∧ branches .bcs (getFlag s.p .c) ∧
    branches .bne (!getFlag s.p .z) ∧ branches .beq (getFlag s.p .z) ∧
    branches .bpl (!getFlag s.p .n) ∧ branches .bmi (getFlag s.p .n) ∧
    branches .bvc (!getFlag s.p .v) ∧ branches .bvs (getFlag s.p .v)

/-- 45 R272, R273: RTS from a subroutine that left the stack as JSR made it returns to the instruction after the
JSR. -/
def Obligations.RtsReturnsFromJsr : Prop :=
  ∀ s t u : State, s.ready → exec .jsr s = .next t → u.ready → u.sp = t.sp →
    (∀ b : Byte, u.memByte (stackAddr b) = t.memByte (stackAddr b)) →
    ∃ v, exec .rts u = .next v ∧ v.pc = s.pc + 2#16 ∧ v.sp = s.sp

/-- 60 R345, 45 R274, R275: RTI from a handler that left the stack as the entry made it returns to the
interrupted instruction, or behind a BRK's padding byte, with P as it was pushed. -/
def Obligations.RtiReturnsFromEveryEntry : Prop :=
  ∀ s t u : State, u.ready → u.sp = t.sp →
    (∀ b : Byte, u.memByte (stackAddr b) = t.memByte (stackAddr b)) →
    (s.ready → exec .brk s = .next t →
      ∃ v, exec .rti u = .next v ∧ v.pc = s.pc + 1#16 ∧ v.sp = s.sp ∧ v.p = s.p ||| 0x30#8) ∧
    (s.atRest → s.snapReq = none → s.resetPending = false → s.nmiRequested ∨ s.irqRequested →
      step s = .next t →
      ∃ v, exec .rti u = .next v ∧ v.pc = s.pc ∧ v.sp = s.sp ∧
        v.p = (s.p &&& 0xEF#8) ||| 0x20#8)

/-! ## Flags, NOP and the debug extensions (46_flags_nop.md, 47_debug_ext.md) -/

/-- 46 R300 to R307: each flag instruction writes its one flag; NOP nothing. -/
def Obligations.FlagInstructionsWriteOneFlag : Prop :=
  ∀ s : State, s.ready →
    let writes := fun (i : Instr) (f : Flag) (b : Bool) =>
      EndsIn i s { s with p := putFlag s.p f b, cycles := s.cycles + 2 }
    writes .clc .c false ∧ writes .sec .c true ∧ writes .cli .i false ∧ writes .sei .i true ∧
    writes .cld .d false ∧ writes .sed .d true ∧ writes .clv .v false ∧
    EndsIn .nop s { s with cycles := s.cycles + 2 }

/-- 47 R310 to R313: HALT halts with code 0; TEST halts with code 1 when P differs from the expected byte under
the mask; TRAP halts with code 2 when it does not. -/
def Obligations.DebugExtensionsHalt : Prop :=
  ∀ s : State, s.ready →
    let mask := s.memByte s.pc
    let expect := s.memByte (s.pc + 1#16)
    let cond := s.p &&& mask = expect &&& mask
    let ended :=
      { s with
        pc := s.pc + 2#16
        cycles := s.cycles + 3
        bus := s.bus ++ [s.readsAt s.pc, s.readsAt (s.pc + 1#16)] }
    EndsInWithBus .halt s
      { s with
        halted := some .halted
        cycles := s.cycles + 2
        bus := s.bus ++ [s.readsAt s.pc] } ∧
    (cond → EndsInWithBus .test s ended) ∧
    (¬ cond → EndsInWithBus .test s { ended with halted := some .testMismatch }) ∧
    (cond → EndsInWithBus .trap s { ended with halted := some .trapped }) ∧
    (¬ cond → EndsInWithBus .trap s ended)

/-! ## Frames: what every instruction leaves alone -/

/-- 20 R93: an instruction changes no byte of memory but those it stores to: its effective address, or the stack
slots of its pushes. -/
def Obligations.MemoryFrame : Prop :=
  ∀ (i : Instr) (s t : State), s.ready → exec i s = .next t →
    ∀ addr : Word, addr ∉ storedAt i s → t.memByte addr = s.memByte addr

/-- 10 R31 to R34: an instruction changes no register but those it writes. -/
def Obligations.RegisterFrame : Prop :=
  ∀ (i : Instr) (s t : State), s.ready → exec i s = .next t →
    ∀ r : Reg, r ∉ registersWritten i → t.reg r = s.reg r

/-- 10 R37, R38: an instruction changes no flag but those it writes, on any bus and in any environment. -/
def Obligations.FlagFrame : Prop :=
  ∀ (i : Instr) (s t : State), s.queue = [] → exec i s = .next t →
    ∀ f : Flag, f ∉ flagsWritten i → getFlag t.p f = getFlag s.p f

/-- 10 R40, 60 R325, 47 R310 to R312: an instruction leaves every request, latch, line, task, handler and
parameter alone and ends with nothing queued; only the debug extensions halt. -/
def Obligations.ControlFrame : Prop :=
  ∀ (i : Instr) (s t : State), s.ready → exec i s = .next t →
    t =
      { s with
        a := t.a, x := t.x, y := t.y, sp := t.sp, pc := t.pc, p := t.p, tmp := t.tmp
        halted := t.halted, cycles := t.cycles, mem := t.mem, bus := t.bus } ∧
    (i.isDebug = false → t.halted = none)

/-! ## The scheduler (60 R360 to R366) -/

/-- 60 R362, R363, R364: what `schedule`, `unschedule` and `reschedule` do to the task and to the others. -/
def Obligations.SchedulerCalls : Prop :=
  ∀ (s : State) (h : Handle) (d : Int) (t : Task), s.fault = none → s.sched.tasks[h.index]? = some t →
    (d < 1 → s.schedule h d = { s with fault := some (.schedulerBadDelay h d) }) ∧
    (1 ≤ d →
      let u := s.schedule h d
      u = { s with sched := u.sched } ∧ u.sched.nextSeq = s.sched.nextSeq + 1 ∧
        u.sched.tasks[h.index]? =
          some { t with count := d.toNat, live := true, seq := s.sched.nextSeq } ∧
        (∀ k, k ≠ h.index → u.sched.tasks[k]? = s.sched.tasks[k]?) ∧
        s.reschedule h d = u) ∧
    s.reschedule h d = (s.unschedule h).schedule h d ∧
    let w := s.unschedule h
    w = { s with sched := w.sched } ∧ w.sched.nextSeq = s.sched.nextSeq ∧
      w.sched.tasks[h.index]? = some { t with live := false } ∧
      ∀ k, k ≠ h.index → w.sched.tasks[k]? = s.sched.tasks[k]?

/-- 60 R366: a task scheduled with delay N fires in the N-th pass and in no earlier one; cancelled, it does not
fire; scheduled anew before it fires, it counts from the new delay. -/
def Obligations.TasksFireOnTheNthPass : Prop :=
  ∀ (s : State) (h : Handle) (n m : Nat) (t : Task), s.fault = none → s.sched.tasks[h.index]? = some t →
    (∀ u ∈ s.sched.tasks, u.live = false) → 1 ≤ n → 1 ≤ m →
    let q := s.schedule h n
    let counted := fun k : Nat =>
      { q with
        sched :=
          { q.sched with tasks := q.sched.tasks.modify h.index fun u => { u with count := n - k } } }
    (∀ k, k < n → schedulerPass^[k] q = counted k) ∧
    schedulerPass^[n] q = runAction {} t.action ((counted n).unschedule h) ∧
    (∀ k, schedulerPass^[k] (q.unschedule h) = q.unschedule h) ∧
    ∀ k, k < n →
      ∀ j, j < m →
        (schedulerPass^[j] ((schedulerPass^[k] q).schedule h m)).sched.tasks[h.index]? =
          some { t with count := m - j, live := true, seq := s.sched.nextSeq + 1 }

/-- 60 R365: tasks that reach zero in one pass fire in the order of their `schedule` calls, whatever their handles
and their delays: the second task is scheduled `m` passes after the first, with a delay shorter by `m`. Its action
runs on what the first one's left, unless that cancelled it, scheduled it anew or faulted; of two that write one
byte, the one scheduled later has the last word. -/
def Obligations.TiesFireInScheduleOrder : Prop :=
  ∀ (s : State) (h k : Handle) (n m : Nat) (t u : Task), s.fault = none → h ≠ k →
    s.sched.tasks[h.index]? = some t → s.sched.tasks[k.index]? = some u →
    (∀ x ∈ s.sched.tasks, x.live = false) → m < n →
    let last := schedulerPass^[n - m] ((schedulerPass^[m] (s.schedule h n)).schedule k (n - m : Nat))
    let fired := fun (x : Task) (place : Nat) (live : Bool) =>
      { x with count := 0, live := live, seq := s.sched.nextSeq + place }
    let zero :=
      { s with
        sched :=
          { tasks := (s.sched.tasks.set h.index (fired t 0 false)).set k.index (fired u 1 true)
            nextSeq := s.sched.nextSeq + 2 } }
    let first := runAction {} t.action zero
    (∃ v, first.sched.tasks[k.index]? = some v ∧
      last =
        if first.fault = none ∧ v.live = true ∧ v.count = 0 then runAction {} u.action (first.unschedule k)
        else first) ∧
    ∀ hi lo v w : Byte,
      t.action = .poke (.const hi) (.const lo) (.const v) →
      u.action = .poke (.const hi) (.const lo) (.const w) → last.memByte (wordOf hi lo) = w

/-! ## The pacing clock (60 R370 to R378) -/

/-- 60 R372, R375: `set_rate` refuses a rate of zero or less; otherwise it sets the rate, any positive real, the
throttle and the nominal delay, and resynchronises with two readings of `now()`. The quantities are compared by their
value in ℝ, whatever numbers `ρ` the named reals stand for (log 21). The model's choices are that a reading below an
earlier one counts as that one, and that the achieved rate is computed anew at the first reading; of a paused
clock the time since its last reading is no active time (60 R376) (DESIGN CHOICE, log 15). -/
def Obligations.SetRate : Prop :=
  ∀ (ρ : Nat → ℝ) (rate : Quantity) (throttled : Bool) (r : ResyncReadings) (s : State),
    (rate.value ρ ≤ 0 → setRate ρ rate throttled r s = .refused .badRate) ∧
    (0 < rate.value ρ →
      let c := s.clock
      let mark := max (c.lastNow.value ρ) (r.mark.value ρ)
      let later := max mark (r.deadline.value ρ)
      let active := (if c.paused then c.lastNow.value ρ else mark) - c.tResync.value ρ - c.pausedNs.value ρ
      ∃ (d : Clock) (achieved : Quantity),
        setRate ρ rate throttled r s = .next { s with clock := d } ∧
        d =
          { c with
            rate := rate, throttled := throttled, since := 0, metrics := some achieved
            nominal := d.nominal, delay := d.delay, tResync := d.tResync, lastNow := d.lastNow
            pausedNs := d.pausedNs, deadline := d.deadline } ∧
        d.nominal.value ρ = 1000000000 / rate.value ρ ∧ d.delay.value ρ = 1000000000 / rate.value ρ ∧
        d.tResync.value ρ = mark ∧ d.lastNow.value ρ = later ∧
        d.pausedNs.value ρ = (if c.paused then later - mark else 0) ∧
        d.deadline.value ρ = later + 1000000000 / rate.value ρ ∧
        (active ≠ 0 → achieved.value ρ = c.since * 1000000000 / active))

/-- 60 R374: the correction multiplies the delay by a positive factor, below 1 when too slow, above 1 when too fast,
and clamps the product to 10 ns and the nominal delay, by the values in ℝ (log 21). For a nominal delay below 10 ns,
where the clamp's bounds cross, the model takes the nominal delay (DESIGN CHOICE, log 15). -/
def Obligations.DriftCorrection : Prop :=
  ∀ (ρ : Nat → ℝ) (c : Clock),
    let achieved := (c.achieved ρ).value ρ
    let rate := c.rate.value ρ
    let nominal := c.nominal.value ρ
    let factor := nudgeFactor (c.delay.value ρ) achieved rate
    let product := c.delay.value ρ * factor
    let after := (c.nudge ρ).delay.value ρ
    c.nudge ρ = { c with delay := (c.nudge ρ).delay } ∧
    (10 ≤ nominal → after = if product < 10 then 10 else if nominal < product then nominal else product) ∧
    (nominal < 10 → after = nominal) ∧
    0 < factor ∧ (achieved < rate → factor < 1) ∧ (rate < achieved → 1 < factor) ∧
    (10 ≤ nominal → 10 ≤ after ∧ after ≤ nominal)

/-- 60 R371, R373, R376: an iteration of the loop with the engine as its only listener is one engine tick, with
the clock's two counters advanced or resynchronised; while paused it is no tick, and the pause is counted, up to the
iteration's reading of `now()`, where a reading below an earlier one counts as that one (DESIGN CHOICE, log 15), by
the values in ℝ (log 21). -/
def Obligations.PacedCycleIsOneTick : Prop :=
  ∀ (ρ : Nat → ℝ) (w : Wall) (s : State), s.cfg.wellFormed →
    (s.clock.paused = false → s.clock.before = [] → s.clock.after = [] →
      ∃ c, pacedCycle ρ w s = .next { engineTick s with clock := c } ∧
        c.total = s.clock.total + 1 ∧ (c.since = s.clock.since + 1 ∨ c.since = 0)) ∧
    (s.clock.paused = true →
      let before := s.clock.lastNow.value ρ
      ∃ d : Clock,
        pacedCycle ρ w s = .next { s with clock := d } ∧
        d = { s.clock with lastNow := d.lastNow, pausedNs := d.pausedNs } ∧
        d.lastNow.value ρ = max before (w.waited.value ρ) ∧
        d.pausedNs.value ρ = s.clock.pausedNs.value ρ + (max before (w.waited.value ρ) - before))

/-- 60 R378: the clock's settings and the host's wall-clock readings decide nothing but the clock: two runs of
equally many iterations from states that differ only in an unpaused clock end alike but for the clock. The other
listeners are the same in both and act alike whatever rate and elapsed time they are handed; what a listener does is
an input of R378, and one that chose by them would give the runs different inputs. -/
def Obligations.PacingDoesNotChangeTheEngine : Prop :=
  ∀ (ρ : Nat → ℝ) (s : State) (c : Clock) (walls walls' : List Wall), s.cfg.wellFormed →
    s.clock.paused = false → c.paused = false → c.before = s.clock.before → c.after = s.clock.after →
    s.clock.listenersIgnoreTime → walls.length = walls'.length →
    ∃ t c', runPaced ρ (fun _ => false) false walls s = .next t ∧
      runPaced ρ (fun _ => false) false walls' { s with clock := c } = .next { t with clock := c' }
end

