-- ==== Sys2Proof/Laws/Memory.lean ====
section
/-!
SUPPORT. Laws of memory: what a read after a write gives, and that every memory operation keeps the canonical
form.
-/

namespace Sys2Proof.Machine

theorem Memory.read_erase_of_ne (m : Memory) {a b : Nat} (h : b ≠ a) :
    Memory.read (Memory.erase m a) b = Memory.read m b := by
  induction m with
  | nil => rfl
  | cons c m ih =>
    obtain ⟨k, w⟩ := c
    unfold Memory.erase at ih ⊢
    by_cases hk : k = a
    · subst hk
      simpa [Memory.read, Ne.symm h] using ih
    · simp only [List.filter_cons, bne_iff_ne, ne_eq, hk, not_false_eq_true, if_true, Memory.read]
      split <;> simp_all

theorem Memory.read_erase_self (m : Memory) (a : Nat) :
    Memory.read (Memory.erase m a) a = Memory.fill := by
  induction m with
  | nil => rfl
  | cons c m ih =>
    obtain ⟨k, w⟩ := c
    unfold Memory.erase at ih ⊢
    by_cases hk : k = a
    · subst hk
      simpa using ih
    · simpa [hk, Memory.read] using ih

theorem Memory.read_insert_self (m : Memory) (a : Nat) (v : Byte)
    (h : ∀ c ∈ m, c.1 ≠ a) : Memory.read (Memory.insert m a v) a = v := by
  induction m with
  | nil => simp [Memory.insert, Memory.read]
  | cons c m ih =>
    obtain ⟨k, w⟩ := c
    have hk : k ≠ a := h (k, w) (by simp)
    simp only [Memory.insert]
    split
    · simp [Memory.read]
    · simp [Memory.read, hk, ih fun c hc => h c (by simp [hc])]

theorem Memory.read_insert_of_ne (m : Memory) {a b : Nat} (v : Byte) (h : b ≠ a) :
    Memory.read (Memory.insert m a v) b = Memory.read m b := by
  induction m with
  | nil => simp [Memory.insert, Memory.read, Ne.symm h]
  | cons c m ih =>
    obtain ⟨k, w⟩ := c
    simp only [Memory.insert]
    split
    · simp [Memory.read, Ne.symm h]
    · simp [Memory.read, ih]

theorem Memory.mem_erase {m : Memory} {a : Nat} {c : Host.Cell} (h : c ∈ Memory.erase m a) :
    c ∈ m ∧ c.1 ≠ a := by
  simpa [Memory.erase] using h

/-- A read of the written address gives the byte written, in every memory (20 R71). -/
theorem Memory.read_write_self (m : Memory) (a : Nat) (v : Byte) :
    Memory.read (Memory.write m a v) a = v := by
  unfold Memory.write
  split
  · next h => rw [Memory.read_erase_self, h]
  · exact Memory.read_insert_self _ _ _ fun c hc => (Memory.mem_erase hc).2

/-- A write leaves every other address alone, in every memory (20 R71). -/
theorem Memory.read_write_of_ne (m : Memory) {a b : Nat} (v : Byte) (h : b ≠ a) :
    Memory.read (Memory.write m a v) b = Memory.read m b := by
  unfold Memory.write
  split
  · exact Memory.read_erase_of_ne m h
  · rw [Memory.read_insert_of_ne _ _ h, Memory.read_erase_of_ne m h]

/-- What a read after a write gives. -/
theorem Memory.read_write (m : Memory) (a b : Nat) (v : Byte) :
    Memory.read (Memory.write m a v) b = if b = a then v else Memory.read m b := by
  split
  · next h => rw [h, Memory.read_write_self]
  · next h => exact Memory.read_write_of_ne m v h

/-! ## The canonical form -/

theorem Memory.wfFrom_mono {m : Memory} {lo lo' : Nat} (hle : lo' ≤ lo) (h : Memory.wfFrom lo m) :
    Memory.wfFrom lo' m := by
  cases m with
  | nil => rfl
  | cons c m =>
    obtain ⟨k, w⟩ := c
    simp only [Memory.wfFrom, Bool.and_eq_true, decide_eq_true_eq] at h ⊢
    exact ⟨⟨⟨by omega, h.1.1.2⟩, h.1.2⟩, h.2⟩

theorem Memory.wfFrom_erase {m : Memory} {lo : Nat} (a : Nat) (h : Memory.wfFrom lo m) :
    Memory.wfFrom lo (Memory.erase m a) := by
  induction m generalizing lo with
  | nil => rfl
  | cons c m ih =>
    obtain ⟨k, w⟩ := c
    simp only [Memory.wfFrom, Bool.and_eq_true, decide_eq_true_eq] at h
    by_cases hk : k = a
    · subst hk
      have := ih (lo := k + 1) h.2
      simpa [Memory.erase] using Memory.wfFrom_mono (by omega) this
    · have := ih (lo := k + 1) h.2
      simpa [Memory.erase, hk, Memory.wfFrom, h.1] using this

theorem Memory.wfFrom_insert {m : Memory} {lo a : Nat} {v : Byte} (h : Memory.wfFrom lo m)
    (hlo : lo ≤ a) (ha : a < 65536) (hv : v ≠ Memory.fill) (hne : ∀ c ∈ m, c.1 ≠ a) :
    Memory.wfFrom lo (Memory.insert m a v) := by
  induction m generalizing lo with
  | nil => simp [Memory.insert, Memory.wfFrom, hlo, ha, hv]
  | cons c m ih =>
    obtain ⟨k, w⟩ := c
    have hk : k ≠ a := hne (k, w) (by simp)
    simp only [Memory.wfFrom, Bool.and_eq_true, decide_eq_true_eq] at h
    simp only [Memory.insert]
    split
    · simp only [Memory.wfFrom, Bool.and_eq_true, decide_eq_true_eq]
      exact ⟨⟨⟨hlo, ha⟩, hv⟩, ⟨⟨by omega, h.1.1.2⟩, h.1.2⟩, h.2⟩
    · simp only [Memory.wfFrom, Bool.and_eq_true, decide_eq_true_eq]
      exact ⟨h.1, ih h.2 (by omega) fun c hc => hne c (by simp [hc])⟩

/-- A write inside the address space keeps the canonical form. -/
theorem Memory.wf_write {m : Memory} {a : Nat} (v : Byte) (ha : a < 65536) (h : m.wf) :
    Memory.wf (Memory.write m a v) := by
  unfold Memory.wf Memory.write at *
  split
  · exact Memory.wfFrom_erase a h
  · next hv =>
    exact Memory.wfFrom_insert (Memory.wfFrom_erase a h) (Nat.zero_le a) ha hv
      fun c hc => (Memory.mem_erase hc).2

/-! ## Two writes at one address -/

theorem Memory.erase_erase (m : Memory) (a : Nat) : (m.erase a).erase a = m.erase a := by
  simp [Memory.erase]

theorem Memory.erase_insert {m : Memory} {a : Nat} (v : Byte) (hne : ∀ c ∈ m, c.1 ≠ a) :
    (Memory.insert m a v).erase a = m := by
  induction m with
  | nil => simp [Memory.insert, Memory.erase]
  | cons c m ih =>
    obtain ⟨k, w⟩ := c
    have hk : k ≠ a := hne (k, w) (by simp)
    have hm := ih fun c hc => hne c (by simp [hc])
    have he : Memory.erase m a = m := by
      simp only [Memory.erase, List.filter_eq_self, bne_iff_ne]
      exact fun c hc => hne c (by simp [hc])
    simp only [Memory.insert]
    split
    · simpa [Memory.erase, hk] using he
    · simpa [Memory.erase, hk] using hm

/-- The later of two writes at one address is the only one. -/
theorem Memory.write_write (m : Memory) (a : Nat) (v w : Byte) :
    (m.write a v).write a w = m.write a w := by
  have h : Memory.erase (m.write a v) a = m.erase a := by
    unfold Memory.write
    split
    · exact m.erase_erase a
    · exact Memory.erase_insert v fun c hc => (Memory.mem_erase hc).2
  rw [Memory.write, h, Memory.write]

/-! ## The same for a state -/

/-- What a read of one byte gives after a byte of the state's memory is written. -/
theorem State.memByte_setMem (s : State) (a b : Word) (v : Byte) :
    (s.setMem a v).memByte b = if b = a then v else s.memByte b := by
  simp only [State.setMem, State.memByte, Memory.read_write, BitVec.toNat_inj]

/-- The later of two writes at one address is the only one. -/
theorem State.setMem_setMem (s : State) (a : Word) (v w : Byte) :
    (s.setMem a v).setMem a w = s.setMem a w := by
  simp only [State.setMem, Memory.write_write]

/-- Every write of a byte at a 16-bit address keeps the canonical form. -/
theorem State.wf_setMem {s : State} (a : Word) (v : Byte) (h : s.mem.wf) : (s.setMem a v).mem.wf :=
  Memory.wf_write v a.isLt h

end Sys2Proof.Machine
end

