-- ==== Sys2Proof/Laws/Frame.lean ====
section
/-!
SUPPORT. What each shared operation can change, said once: the environment's code (actions, listeners, the
scheduler pass), the bus port, the frame of a tick, the writes of a micro-op, and a whole cycle.
-/

namespace Sys2Proof.Machine

/-- From `s` to `t` only the environment's data change: memory, the requests, the interrupt lines, the
scheduler, the record of bus cycles and the counts of free draws; a recorded fault stays, and memory stays
canonical. -/
structure KeepsEngine (s t : State) : Prop where
  a : t.a = s.a
  x : t.x = s.x
  y : t.y = s.y
  sp : t.sp = s.sp
  pc : t.pc = s.pc
  p : t.p = s.p
  nmiPrev : t.nmiPrev = s.nmiPrev
  snapReq : t.snapReq = s.snapReq
  captured : t.captured = s.captured
  servicing : t.servicing = s.servicing
  svcKind : t.svcKind = s.svcKind
  tmp : t.tmp = s.tmp
  halted : t.halted = s.halted
  cycles : t.cycles = s.cycles
  queue : t.queue = s.queue
  devices : t.devices = s.devices
  intercepts : t.intercepts = s.intercepts
  clock : t.clock = s.clock
  cfg : t.cfg = s.cfg
  fault : s.fault.isSome → t.fault = s.fault
  memWf : s.mem.wf → t.mem.wf

theorem KeepsEngine.refl (s : State) : KeepsEngine s s := by
  constructor <;> simp

theorem KeepsEngine.trans {s t u : State} (h : KeepsEngine s t) (k : KeepsEngine t u) :
    KeepsEngine s u where
  a := k.a.trans h.a
  x := k.x.trans h.x
  y := k.y.trans h.y
  sp := k.sp.trans h.sp
  pc := k.pc.trans h.pc
  p := k.p.trans h.p
  nmiPrev := k.nmiPrev.trans h.nmiPrev
  snapReq := k.snapReq.trans h.snapReq
  captured := k.captured.trans h.captured
  servicing := k.servicing.trans h.servicing
  svcKind := k.svcKind.trans h.svcKind
  tmp := k.tmp.trans h.tmp
  halted := k.halted.trans h.halted
  cycles := k.cycles.trans h.cycles
  queue := k.queue.trans h.queue
  devices := k.devices.trans h.devices
  intercepts := k.intercepts.trans h.intercepts
  clock := k.clock.trans h.clock
  cfg := k.cfg.trans h.cfg
  fault hs := (k.fault (by rw [h.fault hs]; exact hs)).trans (h.fault hs)
  memWf hs := k.memWf (h.memWf hs)

/-! ## Faults -/

theorem State.raise_keeps (s : State) (f : Fault) : KeepsEngine s (s.raise f) := by
  unfold State.raise
  split
  · exact .refl s
  · next h => constructor <;> simp_all

/-- `raise` changes the fault field only. -/
theorem State.raise_eq (s : State) (f : Fault) :
    s.raise f = { s with fault := (s.raise f).fault } := by
  unfold State.raise
  split <;> rfl

@[simp] theorem State.raise_of_none {s : State} (f : Fault) (h : s.fault = none) :
    s.raise f = { s with fault := some f } := by
  simp [State.raise, h]

/-! ## Actions and the scheduler pass (60 R365, R367) -/

theorem State.schedule_keeps (s : State) (h : Handle) (d : Int) : KeepsEngine s (s.schedule h d) := by
  unfold State.schedule
  split
  · split
    · exact s.raise_keeps _
    · constructor <;> simp
  · exact .refl s

theorem State.unschedule_keeps (s : State) (h : Handle) : KeepsEngine s (s.unschedule h) := by
  constructor <;> simp [State.unschedule]

theorem State.newTask_keeps (s : State) (a : Action) : KeepsEngine s (s.newTask a).2 := by
  constructor <;> simp [State.newTask]

theorem State.drawn_keeps (s : State) : KeepsEngine s s.drawn := by
  constructor <;> simp [State.drawn]

theorem State.setMem_keeps (s : State) (addr : Word) (v : Byte) : KeepsEngine s (s.setMem addr v) where
  a := rfl
  x := rfl
  y := rfl
  sp := rfl
  pc := rfl
  p := rfl
  nmiPrev := rfl
  snapReq := rfl
  captured := rfl
  servicing := rfl
  svcKind := rfl
  tmp := rfl
  halted := rfl
  cycles := rfl
  queue := rfl
  devices := rfl
  intercepts := rfl
  clock := rfl
  cfg := rfl
  fault _ := rfl
  memWf := State.wf_setMem addr v

/-- A relation that holds across each primitive effect of peripheral code (60 R361 to R367). Everything such code
can do is a sequence of these, so the relation holds across every run of it. -/
structure ActionClosed (R : State → State → Prop) : Prop where
  refl : ∀ s, R s s
  trans : ∀ {s t u}, R s t → R t u → R s u
  schedule : ∀ s h d, R s (s.schedule h d)
  unschedule : ∀ s h, R s (s.unschedule h)
  newTask : ∀ s a, R s (s.newTask a).2
  requestNmi : ∀ s, R s { s with nmiLatch := true }
  requestReset : ∀ s, R s { s with resetPending := true }
  irqLines : ∀ s l, R s { s with irqLines := l }
  nmiLines : ∀ s l, R s { s with nmiLines := l }
  setMem : ∀ s addr v, R s (s.setMem addr v)
  drawn : ∀ s, R s s.drawn

theorem ActionClosed.unlessFaulted {R : State → State → Prop} (hR : ActionClosed R) {s t : State}
    (h : R s t) : R s (s.unlessFaulted t) := by
  unfold State.unlessFaulted
  split
  · exact hR.refl s
  · exact h

/-- Everything an action can do, given what its free parts can do. -/
theorem ActionClosed.run {R : State → State → Prop} (hR : ActionClosed R) {onFree : Nat → State → State}
    (hfree : ∀ k s, R s (onFree k s)) (call : Call) (a : Action) (s : State) :
    R s (a.run onFree call s) := by
  induction a generalizing s with
  | skip => exact hR.refl s
  | seq f g hf hg => exact hR.trans (hf s) (hg _)
  | ifElse t f g hf hg =>
    rw [Action.run]
    split
    · exact hf s
    · exact hg s
  | schedule h d => exact hR.unlessFaulted (hR.schedule s h d)
  | unschedule h => exact hR.unlessFaulted (hR.unschedule s h)
  | reschedule h d => exact hR.unlessFaulted (hR.trans (hR.unschedule s h) (hR.schedule _ h d))
  | newTask b => exact hR.unlessFaulted (hR.newTask s b)
  | newTaskScheduled b d => exact hR.unlessFaulted (hR.trans (hR.newTask s b) (hR.schedule _ _ d))
  | requestNmi => exact hR.unlessFaulted (hR.requestNmi s)
  | requestReset => exact hR.unlessFaulted (hR.requestReset s)
  | setIrq n b => exact hR.unlessFaulted (hR.irqLines s _)
  | setNmi n b => exact hR.unlessFaulted (hR.nmiLines s _)
  | poke hi lo v => exact hR.unlessFaulted (hR.setMem s _ _)
  | free k => exact hfree k s

theorem ActionClosed.runFreeAction {R : State → State → Prop} (hR : ActionClosed R) (k : Nat) (s : State) :
    R s (runFreeAction k s) :=
  hR.run (fun _ t => hR.refl t) _ _ s

/-- Everything a run of peripheral code can do (60 R367). -/
theorem ActionClosed.runAction {R : State → State → Prop} (hR : ActionClosed R) (call : Call) (a : Action)
    (s : State) : R s (runAction call a s) :=
  hR.unlessFaulted (hR.trans (hR.run hR.runFreeAction call a s) (hR.drawn _))

/-- A relation that holds across the primitive effects of a scheduler pass as well (60 R365). -/
structure PassClosed (R : State → State → Prop) : Prop extends ActionClosed R where
  decrement : ∀ s, R s { s with sched := { s.sched with tasks := decrementLive s.sched.tasks } }

theorem PassClosed.fireTask {R : State → State → Prop} (hR : PassClosed R) (s : State) (h : Handle) :
    R s (fireTask s h) := by
  unfold Machine.fireTask
  split
  · exact hR.refl s
  · split
    · exact hR.unlessFaulted (hR.trans (hR.unschedule s h) (hR.runAction _ _ _))
    · exact hR.refl s

/-- Everything a scheduler pass can do (60 R365, R367). -/
theorem PassClosed.schedulerPass {R : State → State → Prop} (hR : PassClosed R) (s : State) :
    R s (schedulerPass s) := by
  have hfold : ∀ (hs : List Handle) (t : State), R t (hs.foldl Machine.fireTask t) := by
    intro hs
    induction hs with
    | nil => exact hR.refl
    | cons h hs ih => exact fun t => hR.trans (hR.fireTask t h) (ih _)
  exact hR.trans (hR.decrement s) (hfold _ _)

/-- Peripheral code and scheduler passes change the environment's data only. -/
theorem KeepsEngine.closed : PassClosed KeepsEngine where
  refl := .refl
  trans := .trans
  schedule := State.schedule_keeps
  unschedule := State.unschedule_keeps
  newTask := State.newTask_keeps
  requestNmi s := by constructor <;> simp
  requestReset s := by constructor <;> simp
  irqLines s l := by constructor <;> simp
  nmiLines s l := by constructor <;> simp
  setMem := State.setMem_keeps
  drawn := State.drawn_keeps
  decrement s := by constructor <;> simp

/-- A run of peripheral code changes the environment's data only (60 R367). -/
theorem runAction_keeps (call : Call) (a : Action) (s : State) : KeepsEngine s (runAction call a s) :=
  KeepsEngine.closed.runAction call a s

/-- The scheduler pass changes the environment's data only (60 R365, R367). -/
theorem schedulerPass_keeps (s : State) : KeepsEngine s (schedulerPass s) :=
  KeepsEngine.closed.schedulerPass s

theorem startTick_keeps (s : State) : KeepsEngine s (startTick s) := by
  unfold startTick
  split
  · exact schedulerPass_keeps s
  · exact .refl s

/-- The end of a tick counts the cycle and otherwise changes the environment's data only (40 R131). -/
theorem endTick_keeps (s : State) :
    (endTick s).cycles = s.cycles + 1 ∧ KeepsEngine s { endTick s with cycles := s.cycles } := by
  unfold endTick
  split
  · have h := schedulerPass_keeps s
    refine ⟨by simp [h.cycles], ?_⟩
    constructor <;>
      simp [h.a, h.x, h.y, h.sp, h.pc, h.p, h.nmiPrev, h.snapReq, h.captured, h.servicing, h.svcKind, h.tmp,
        h.halted, h.queue, h.devices, h.intercepts, h.clock, h.cfg]
    · exact h.fault
    · exact h.memWf
  · refine ⟨rfl, ?_⟩
    constructor <;> simp

/-! ## The bus port (20 R71, R83) -/

/-- A read that is answered changes the environment's data only. -/
theorem busRead_keeps {s t : State} {addr : Word} {v : Byte} (h : busRead s addr = .done v t) :
    KeepsEngine s t := by
  unfold busRead at h
  split at h
  · split at h
    · obtain ⟨-, rfl⟩ := Answer.done.inj h
      constructor <;> simp [State.logBus]
    · obtain ⟨-, rfl⟩ := Answer.done.inj h
      refine .trans ?_ (runAction_keeps _ _ _)
      constructor <;> simp [State.logBus]
  · cases h

/-- A write that is taken changes the environment's data only. -/
theorem busWrite_keeps {s t : State} {addr : Word} {v w : Byte} (h : busWrite s addr v = .done w t) :
    KeepsEngine s t := by
  unfold busWrite at h
  split at h
  · split at h
    · obtain ⟨-, rfl⟩ := Answer.done.inj h
      refine (s.setMem_keeps addr v).trans ?_
      constructor <;> simp [State.logBus]
    · obtain ⟨-, rfl⟩ := Answer.done.inj h
      refine .trans ?_ (runAction_keeps _ _ _)
      constructor <;> simp [State.logBus]
  · cases h

theorem busAccess_keeps {s t : State} {acc : Access} {v : Byte} (h : busAccess s acc = .done v t) :
    KeepsEngine s t := by
  cases acc with
  | read addr => exact busRead_keeps h
  | write addr w => exact busWrite_keeps h

/-- An access is refused exactly at an unmapped address, as BusUnmapped (20 R83, 60 R323). -/
theorem busAccess_unmapped {s : State} {acc : Access} {f : Fault} (h : busAccess s acc = .unmapped f) :
    (∃ addr, acc = .read addr ∧ s.mapped addr = false ∧ f = .busUnmapped addr .read) ∨
    (∃ addr v, acc = .write addr v ∧ s.mapped addr = false ∧ f = .busUnmapped addr .write) := by
  cases acc with
  | read addr =>
    simp only [busAccess, busRead] at h
    split at h
    · split at h <;> cases h
    · next hm => exact .inl ⟨addr, rfl, by simpa using hm, (Answer.unmapped.inj h).symm⟩
  | write addr v =>
    simp only [busAccess, busWrite] at h
    split at h
    · split at h <;> cases h
    · next hm => exact .inr ⟨addr, v, rfl, by simpa using hm, (Answer.unmapped.inj h).symm⟩

/-! ## The queue (40 R135) -/

/-- A push that succeeds appends to the queue and changes nothing else. -/
theorem enqueue_some {ops : List MicroOp} {s t : State} (h : enqueue ops s = some t) :
    t = { s with queue := s.queue ++ ops } := by
  induction ops generalizing s with
  | nil => simpa [enqueue] using h.symm
  | cons op ops ih =>
    simp only [enqueue] at h
    split at h
    · simpa using ih h
    · cases h

/-- Pushes succeed while the queue has room. -/
theorem enqueue_of_room {ops : List MicroOp} {s : State} (h : s.queue.length + ops.length ≤ s.cfg.q) :
    enqueue ops s = some { s with queue := s.queue ++ ops } := by
  induction ops generalizing s with
  | nil => simp [enqueue]
  | cons op ops ih =>
    have hlt : s.queue.length < s.cfg.q := by simp at h; omega
    rw [enqueue, if_pos hlt, ih (by simp at h ⊢; omega)]
    simp

/-! ## The writes of a micro-op (40 R140) -/

theorem ReadOp.apply_frame (op : ReadOp) (v : Byte) (s : State) :
    op.apply v s =
      { s with
        a := (op.apply v s).a, x := (op.apply v s).x, y := (op.apply v s).y
        p := (op.apply v s).p } := by
  cases op <;> rfl

theorem ImpliedOp.apply_frame (op : ImpliedOp) (s : State) :
    op.apply s =
      { s with
        a := (op.apply s).a, x := (op.apply s).x, y := (op.apply s).y, sp := (op.apply s).sp
        p := (op.apply s).p } := by
  cases op <;> rfl

/-- A micro-op writes the register file, the temporaries, `servicing` and the halt state, nothing else
(40 R140). -/
theorem MicroOp.effect_frame (op : MicroOp) (v : Byte) (s : State) :
    op.effect v s =
      { s with
        a := (op.effect v s).a, x := (op.effect v s).x, y := (op.effect v s).y
        sp := (op.effect v s).sp, pc := (op.effect v s).pc, p := (op.effect v s).p
        tmp := (op.effect v s).tmp, servicing := (op.effect v s).servicing
        halted := (op.effect v s).halted } := by
  cases op <;>
    first
    | rfl
    | (rename_i o; cases o <;> rfl)
    | (simp only [MicroOp.effect]; split <;> rfl)
    | (rename_i o; cases o <;> simp only [MicroOp.effect] <;> split <;> rfl)

/-! ## A whole cycle (20 R72, 60 R320) -/

/-- Everything a cycle can come to: a bus fault, a fault of the access's own side effect, an overflow, or
the writes and the pushes. -/
theorem runCycle_cases (s : State) (popped : List MicroOp) (acc : Access) (eff : Byte → State → State)
    (follow : State → List MicroOp) :
    (∃ f, busAccess { s with queue := popped } acc = .unmapped f ∧
      runCycle s popped acc eff follow = s.raise f) ∨
    (∃ v t, busAccess { s with queue := popped } acc = .done v t ∧
      ((t.fault.isSome ∧ runCycle s popped acc eff follow = { t with queue := s.queue }) ∨
        (t.fault = none ∧ runCycle s popped acc eff follow = s.raise .queueOverflow ∧
          enqueue (follow (eff v t)) (eff v t) = none) ∨
        (t.fault = none ∧
          runCycle s popped acc eff follow =
            { eff v t with queue := (eff v t).queue ++ follow (eff v t) }))) := by
  unfold runCycle
  split
  · next f h => exact .inl ⟨f, h, rfl⟩
  · next v t h =>
    refine .inr ⟨v, t, h, ?_⟩
    split
    · next hf => exact .inl ⟨hf, rfl⟩
    · next hf =>
      have hf : t.fault = none := by simpa using hf
      split
      · next u hu => exact .inr (.inr ⟨hf, enqueue_some hu⟩)
      · next hu => exact .inr (.inl ⟨hf, rfl, hu⟩)

end Sys2Proof.Machine
end

