-- ==== Sys2Proof/Laws/Quantity.lean ====
section
/-!
SUPPORT. The value of each operation on quantities: the arithmetic and the comparisons are those of ℝ.
-/

namespace Sys2Proof.Machine

variable (ρ : Nat → ℝ)

@[simp] theorem Quantity.value_rat (q : Rat) : (Quantity.rat q).value ρ = (q : ℝ) := rfl

/-- A name has the value that it is given, so every real is the value of a quantity. -/
@[simp] theorem Quantity.value_real (name : Nat) : (Quantity.real name).value ρ = ρ name := rfl

@[simp] theorem Quantity.value_plus (x y : Quantity) : (x.plus y).value ρ = x.value ρ + y.value ρ := by
  unfold Quantity.plus
  split <;> simp [Quantity.value]

@[simp] theorem Quantity.value_minus (x y : Quantity) : (x.minus y).value ρ = x.value ρ - y.value ρ := by
  unfold Quantity.minus
  split <;> simp [Quantity.value]

@[simp] theorem Quantity.value_times (x y : Quantity) : (x.times y).value ρ = x.value ρ * y.value ρ := by
  unfold Quantity.times
  split <;> simp [Quantity.value]

@[simp] theorem Quantity.value_over (x y : Quantity) : (x.over y).value ρ = x.value ρ / y.value ρ := by
  unfold Quantity.over
  split <;> simp [Quantity.value]

@[simp] theorem Quantity.value_nudge (delay achieved rate : Quantity) :
    (Quantity.nudge delay achieved rate).value ρ =
      nudgeFactor (delay.value ρ) (achieved.value ρ) (rate.value ρ) := rfl

@[simp] theorem Quantity.less_iff (x y : Quantity) : x.less ρ y = true ↔ x.value ρ < y.value ρ := by
  unfold Quantity.less
  split <;> simp [Quantity.value]

@[simp] theorem Quantity.less_eq_false (x y : Quantity) : x.less ρ y = false ↔ y.value ρ ≤ x.value ρ := by
  rw [← not_lt, ← Quantity.less_iff, Bool.not_eq_true]

@[simp] theorem Quantity.value_larger (x y : Quantity) :
    (x.larger ρ y).value ρ = max (x.value ρ) (y.value ρ) := by
  unfold Quantity.larger
  split
  · next h => rw [max_eq_right ((Quantity.less_iff ρ x y).1 h).le]
  · next h => rw [max_eq_left (by simpa using h)]

@[simp] theorem Quantity.value_smaller (x y : Quantity) :
    (x.smaller ρ y).value ρ = min (x.value ρ) (y.value ρ) := by
  unfold Quantity.smaller
  split
  · next h => rw [min_eq_right ((Quantity.less_iff ρ y x).1 h).le]
  · next h => rw [min_eq_left (by simpa using h)]

@[simp] theorem Quantity.isZero_iff (x : Quantity) : x.isZero ρ = true ↔ x.value ρ = 0 := by
  simp only [Quantity.isZero, Bool.and_eq_true, Bool.not_eq_true', Quantity.less_eq_false, Quantity.value_rat]
  rw [le_antisymm_iff, Rat.cast_zero, and_comm]

/-- The factor of NUDGE is positive (60 R374). -/
theorem nudgeFactor_pos (delay achieved rate : ℝ) : 0 < nudgeFactor delay achieved rate := by
  unfold nudgeFactor
  dsimp only
  split_ifs <;> positivity

end Sys2Proof.Machine
end

