-- ==== Sys2Proof/Laws/Clock.lean ====
section
/-!
SUPPORT. What each operation of the pacing clock does to each field of the clock, so that no proof needs to unfold
one.
-/

namespace Sys2Proof.Machine

variable (ρ : Nat → ℝ)

/-! ## A reading of `now()` (60 R373, R376) -/

/-- A reading moves `lastNow`, and the paused time of a paused clock, and nothing else. -/
theorem Clock.now_frame (c : Clock) (w : Quantity) :
    c.now ρ w = { c with lastNow := c.lastNow.larger ρ w, pausedNs := (c.now ρ w).pausedNs } := rfl

@[simp] theorem Clock.now_total (c : Clock) (w : Quantity) : (c.now ρ w).total = c.total := rfl
@[simp] theorem Clock.now_since (c : Clock) (w : Quantity) : (c.now ρ w).since = c.since := rfl
@[simp] theorem Clock.now_rate (c : Clock) (w : Quantity) : (c.now ρ w).rate = c.rate := rfl
@[simp] theorem Clock.now_nominal (c : Clock) (w : Quantity) : (c.now ρ w).nominal = c.nominal := rfl
@[simp] theorem Clock.now_delay (c : Clock) (w : Quantity) : (c.now ρ w).delay = c.delay := rfl
@[simp] theorem Clock.now_throttled (c : Clock) (w : Quantity) : (c.now ρ w).throttled = c.throttled := rfl
@[simp] theorem Clock.now_paused (c : Clock) (w : Quantity) : (c.now ρ w).paused = c.paused := rfl
@[simp] theorem Clock.now_deadline (c : Clock) (w : Quantity) : (c.now ρ w).deadline = c.deadline := rfl
@[simp] theorem Clock.now_tResync (c : Clock) (w : Quantity) : (c.now ρ w).tResync = c.tResync := rfl
@[simp] theorem Clock.now_lastTick (c : Clock) (w : Quantity) : (c.now ρ w).lastTick = c.lastTick := rfl
@[simp] theorem Clock.now_lastNow (c : Clock) (w : Quantity) : (c.now ρ w).lastNow = c.lastNow.larger ρ w := rfl
@[simp] theorem Clock.now_metrics (c : Clock) (w : Quantity) : (c.now ρ w).metrics = c.metrics := rfl
@[simp] theorem Clock.now_resyncCycles (c : Clock) (w : Quantity) : (c.now ρ w).resyncCycles = c.resyncCycles := rfl
@[simp] theorem Clock.now_before (c : Clock) (w : Quantity) : (c.now ρ w).before = c.before := rfl
@[simp] theorem Clock.now_after (c : Clock) (w : Quantity) : (c.now ρ w).after = c.after := rfl

theorem Clock.now_pausedNs (c : Clock) (w : Quantity) :
    (c.now ρ w).pausedNs =
      if c.paused then c.pausedNs.plus ((c.lastNow.larger ρ w).minus c.lastNow) else c.pausedNs := rfl

@[simp] theorem Clock.value_activeNs (c : Clock) :
    c.activeNs.value ρ = c.lastNow.value ρ - c.tResync.value ρ - c.pausedNs.value ρ := by
  simp [Clock.activeNs]

/-- While paused, a reading leaves the active time as it is (60 R376: the pause is excluded). -/
theorem Clock.now_activeNs (c : Clock) (w : Quantity) :
    (c.now ρ w).activeNs.value ρ =
      (if c.paused then c.lastNow.value ρ else max (c.lastNow.value ρ) (w.value ρ)) - c.tResync.value ρ -
        c.pausedNs.value ρ := by
  rw [Clock.value_activeNs, Clock.now_pausedNs]
  split <;> simp
  ring

/-- The achieved rate is the cycles since the resync per second of active time, where there is any (60 R374). -/
theorem Clock.value_achieved (c : Clock) (h : c.activeNs.value ρ ≠ 0) :
    (c.achieved ρ).value ρ = c.since * 1000000000 / c.activeNs.value ρ := by
  rw [ne_eq, ← Quantity.isZero_iff, Bool.not_eq_true] at h
  simp [Clock.achieved, h]

/-! ## Resync and nudge (60 R374, R375) -/

/-- Everything a resync does. -/
theorem Clock.resync_eq (c : Clock) (r : ResyncReadings) :
    c.resync ρ r =
      { c with
        delay := c.nominal
        metrics := some ((c.now ρ r.mark).achieved ρ)
        since := 0
        tResync := c.lastNow.larger ρ r.mark
        lastNow := (c.lastNow.larger ρ r.mark).larger ρ r.deadline
        pausedNs :=
          if c.paused then
            Quantity.plus (.rat 0)
              (((c.lastNow.larger ρ r.mark).larger ρ r.deadline).minus (c.lastNow.larger ρ r.mark))
          else .rat 0
        deadline := ((c.lastNow.larger ρ r.mark).larger ρ r.deadline).plus c.nominal } := rfl

/-- A nudge writes the delay only. -/
theorem Clock.nudge_frame (c : Clock) : c.nudge ρ = { c with delay := (c.nudge ρ).delay } := rfl

/-- The delay after a nudge is the smaller of the nominal one and the larger of 10 ns and the product (60 R374). -/
theorem Clock.value_nudge (c : Clock) :
    (c.nudge ρ).delay.value ρ =
      min (c.nominal.value ρ)
        (max 10
          (c.delay.value ρ *
            nudgeFactor (c.delay.value ρ) ((c.achieved ρ).value ρ) (c.rate.value ρ))) := by
  simp [Clock.nudge, clampDelay]

/-! ## An iteration of the loop (60 R373) -/

/-- The readings before a tick move `lastNow`, `lastTick` and the paused time, and nothing else. -/
theorem Clock.enterCycle_frame (c : Clock) (w : Wall) :
    (c.enterCycle ρ w).2 =
      { c with
        lastNow := (c.enterCycle ρ w).2.lastNow
        lastTick := (c.enterCycle ρ w).2.lastTick
        pausedNs := (c.enterCycle ρ w).2.pausedNs } := by
  cases h : c.throttled <;> simp [Clock.enterCycle, Clock.now, h]

theorem Clock.leaveCycle_total (c : Clock) (w : Wall) : (c.leaveCycle ρ w).total = c.total + 1 := by
  simp only [Clock.leaveCycle]
  split <;> split <;> simp [Clock.resync_eq, Clock.nudge]

/-- After the tick the cycles since the resync are one more, or zero where a resync was due. -/
theorem Clock.leaveCycle_since (c : Clock) (w : Wall) :
    (c.leaveCycle ρ w).since = c.since + 1 ∨ (c.leaveCycle ρ w).since = 0 := by
  simp only [Clock.leaveCycle]
  split <;> split <;> simp [Clock.resync_eq, Clock.nudge]

/-- The tick's last part leaves the settings and the listeners alone. -/
theorem Clock.leaveCycle_settings (c : Clock) (w : Wall) :
    (c.leaveCycle ρ w).rate = c.rate ∧ (c.leaveCycle ρ w).throttled = c.throttled ∧
      (c.leaveCycle ρ w).nominal = c.nominal ∧ (c.leaveCycle ρ w).paused = c.paused ∧
      (c.leaveCycle ρ w).before = c.before ∧ (c.leaveCycle ρ w).after = c.after := by
  simp only [Clock.leaveCycle]
  split <;> split <;> simp [Clock.resync_eq, Clock.nudge]

/-! ## Listeners (60 R371) -/

/-- Listeners change the environment's data only. -/
theorem runListeners_keeps (code : Listener → Action) (call : Call) (ls : List Listener) (s : State) :
    KeepsEngine s (runListeners code call ls s) := by
  induction ls generalizing s with
  | nil => exact .refl s
  | cons l ls ih => exact (runAction_keeps call (code l) s).trans (ih _)

end Sys2Proof.Machine
end

