-- ==== Sys2Proof/Laws/Quiet.lean ====
section
/-!
SUPPORT. The machine in a plain environment (`State.plain`): the scheduler pass and the bus have their plain
answers, and an instruction is the run `quietRun` of its cycles, which unfolds cycle by cycle.
-/

namespace Sys2Proof.Machine

theorem State.plain_iff (s : State) :
    s.plain ↔ s.cfg.unmapped = [] ∧ s.devices = [] ∧ (∀ t ∈ s.sched.tasks, t.live = false) ∧
      16 ≤ s.cfg.q := by
  simp [State.plain, and_assoc]

theorem State.ready_iff (s : State) :
    s.ready ↔ s.plain ∧ s.halted = none ∧ s.fault = none ∧ s.queue = [] := by
  simp [State.ready, State.stopped, and_assoc]

theorem State.atRest_iff (s : State) :
    s.atRest ↔ s.plain ∧ s.halted = none ∧ s.fault = none ∧ s.queue = [] ∧ s.servicing = false ∧
      s.cfg.wellFormed := by
  simp [State.atRest, State.stopped, State.quiescent, and_assoc]

/-! ## The scheduler with no live task -/

theorem liveHandles_of_dead {tasks : List Task} (h : ∀ t ∈ tasks, t.live = false) (n : Nat) :
    liveHandles tasks n = [] := by
  induction tasks generalizing n with
  | nil => rfl
  | cons t ts ih => simp [liveHandles, h t (by simp), ih fun u hu => h u (by simp [hu])]

theorem decrementLive_of_dead {tasks : List Task} (h : ∀ t ∈ tasks, t.live = false) :
    decrementLive tasks = tasks := by
  induction tasks with
  | nil => rfl
  | cons t ts ih =>
    have := ih fun u hu => h u (by simp [hu])
    simp_all [decrementLive]

/-- A pass with no live task changes nothing (60 R365). -/
theorem schedulerPass_of_dead {s : State} (h : ∀ t ∈ s.sched.tasks, t.live = false) :
    schedulerPass s = s := by
  simp [schedulerPass, passOrder, liveHandles_of_dead h, decrementLive_of_dead h]

theorem startTick_of_plain {s : State} (h : s.plain) : startTick s = s := by
  unfold startTick
  split
  · exact schedulerPass_of_dead ((s.plain_iff.1 h).2.2.1)
  · rfl

theorem endTick_of_plain {s : State} (h : s.plain) : endTick s = { s with cycles := s.cycles + 1 } := by
  unfold endTick
  split
  · rw [schedulerPass_of_dead ((s.plain_iff.1 h).2.2.1)]
  · rfl

/-! ## The bus of a plain environment -/

theorem State.mapped_of_plain {s : State} (h : s.plain) (addr : Word) : s.mapped addr = true := by
  simp [State.mapped, (s.plain_iff.1 h).1]

theorem busRead_of_plain {s : State} (h : s.plain) (addr : Word) :
    busRead s addr = .done (s.memByte addr) (s.logBus (.read addr (s.memByte addr))) := by
  simp [busRead, State.mapped_of_plain h, State.deviceAt, (s.plain_iff.1 h).2.1]

theorem busWrite_of_plain {s : State} (h : s.plain) (addr : Word) (v : Byte) :
    busWrite s addr v = .done v ((s.setMem addr v).logBus (.write addr v)) := by
  simp [busWrite, State.mapped_of_plain h, State.deviceAt, (s.plain_iff.1 h).2.1]

/-- The byte a plain access answers. -/
def quietByte (s : State) : Access → Byte
  | .read addr => s.memByte addr
  | .write _ v => v

/-- The state a plain access leaves. -/
def quietAfter (s : State) : Access → State
  | .read addr => s.logBus (.read addr (s.memByte addr))
  | .write addr v => (s.setMem addr v).logBus (.write addr v)

theorem busAccess_of_plain {s : State} (h : s.plain) (acc : Access) :
    busAccess s acc = .done (quietByte s acc) (quietAfter s acc) := by
  cases acc with
  | read addr => exact busRead_of_plain h addr
  | write addr v => exact busWrite_of_plain h addr v

/-! ## A micro-op, and a queue of them -/

/-- A micro-op in a plain environment: its access and its writes. -/
def quietOp (op : MicroOp) (s : State) : State :=
  op.effect (quietByte s (op.access s)) (quietAfter s (op.access s))

/-- A queue run in a plain environment, one cycle a micro-op. -/
def quietRun : Nat → List MicroOp → State → State
  | 0, q, s => { s with queue := q }
  | _ + 1, [], s => { s with queue := [] }
  | n + 1, op :: rest, s =>
    if (quietOp op s).halted.isSome then
      { quietOp op s with
        queue := rest ++ op.follow (quietOp op s), cycles := (quietOp op s).cycles + 1 }
    else
      quietRun n (rest ++ op.follow (quietOp op s))
        { quietOp op s with cycles := (quietOp op s).cycles + 1 }

theorem MicroOp.access_queue (op : MicroOp) (s : State) (q : List MicroOp) :
    op.access { s with queue := q } = op.access s := by
  cases op <;> rfl

theorem MicroOp.effect_queue (op : MicroOp) (v : Byte) (s : State) (q : List MicroOp) :
    op.effect v { s with queue := q } = { op.effect v s with queue := q } := by
  cases op <;>
    first
    | rfl
    | (rename_i o; cases o <;> rfl)
    | (simp only [MicroOp.effect]; split <;> rfl)
    | (rename_i o; cases o <;> simp only [MicroOp.effect] <;> split <;> rfl)

theorem MicroOp.follow_queue (op : MicroOp) (s : State) (q : List MicroOp) :
    op.follow { s with queue := q } = op.follow s := by
  cases op <;> rfl

theorem MicroOp.follow_length (op : MicroOp) (s : State) : (op.follow s).length ≤ 1 := by
  cases op <;> simp only [MicroOp.follow] <;> first | (split <;> simp) | simp

theorem quietByte_queue (s : State) (acc : Access) (q : List MicroOp) :
    quietByte { s with queue := q } acc = quietByte s acc := by
  cases acc <;> rfl

theorem quietAfter_queue (s : State) (acc : Access) (q : List MicroOp) :
    quietAfter { s with queue := q } acc = { quietAfter s acc with queue := q } := by
  cases acc <;> rfl

theorem quietAfter_frame (s : State) (acc : Access) :
    quietAfter s acc = { s with mem := (quietAfter s acc).mem, bus := (quietAfter s acc).bus } := by
  cases acc <;> rfl

/-- A micro-op in a plain environment changes memory, the record of bus cycles, the register file, the
temporaries, `servicing` and the halt state, nothing else. -/
theorem quietOp_frame (op : MicroOp) (s : State) :
    quietOp op s =
      { s with
        a := (quietOp op s).a, x := (quietOp op s).x, y := (quietOp op s).y, sp := (quietOp op s).sp
        pc := (quietOp op s).pc, p := (quietOp op s).p, tmp := (quietOp op s).tmp
        servicing := (quietOp op s).servicing, halted := (quietOp op s).halted
        mem := (quietOp op s).mem, bus := (quietOp op s).bus } := by
  unfold quietOp
  rw [MicroOp.effect_frame, quietAfter_frame]

theorem quietOp_plain (op : MicroOp) (s : State) : (quietOp op s).plain = s.plain := by
  rw [quietOp_frame]; rfl

theorem quietOp_fault (op : MicroOp) (s : State) : (quietOp op s).fault = s.fault := by
  rw [quietOp_frame]

theorem quietOp_cfg (op : MicroOp) (s : State) : (quietOp op s).cfg = s.cfg := by
  rw [quietOp_frame]

/-- A micro-op at the head of a queue with room, in a plain environment and a running engine. -/
theorem runMicroOp_of_plain {op : MicroOp} {rest : List MicroOp} {s : State} (h : s.plain)
    (hf : s.fault = none) (hq : rest.length < 16) :
    runMicroOp op rest s =
      { quietOp op s with queue := rest ++ op.follow (quietOp op s) } := by
  have hp : State.plain { s with queue := rest } := by simpa [State.plain] using h
  have hroom : 16 ≤ s.cfg.q := (s.plain_iff.1 h).2.2.2
  have hlen := op.follow_length (quietOp op s)
  unfold runMicroOp runCycle
  simp only [busAccess_of_plain hp, quietByte_queue, quietAfter_queue, MicroOp.effect_queue,
    MicroOp.follow_queue]
  have hfa : (quietAfter s (op.access s)).fault = none := by rw [quietAfter_frame]; exact hf
  simp only [hfa, Option.isSome_none, Bool.false_eq_true, if_false]
  change (match enqueue (op.follow (quietOp op s)) { quietOp op s with queue := rest } with
    | some u => u
    | none => s.raise .queueOverflow) = _
  rw [enqueue_of_room (by simp only [quietOp_cfg]; omega)]

/-- One tick in a plain environment runs the queue's head and counts the cycle. -/
theorem microTick_of_plain {op : MicroOp} {rest : List MicroOp} {s : State} (h : s.plain)
    (hh : s.halted = none) (hf : s.fault = none) (hq : rest.length < 16) :
    microTick { s with queue := op :: rest } =
      { quietOp op s with
        queue := rest ++ op.follow (quietOp op s), cycles := (quietOp op s).cycles + 1 } := by
  have hp : State.plain { s with queue := op :: rest } := by simpa [State.plain] using h
  have hop : quietOp op { s with queue := op :: rest } = { quietOp op s with queue := op :: rest } := by
    simp only [quietOp, MicroOp.access_queue, quietByte_queue, quietAfter_queue, MicroOp.effect_queue]
  have hst : State.stopped { s with queue := op :: rest } = false := by simp [State.stopped, hh, hf]
  have hfs : (State.fault { s with queue := op :: rest }).isSome = false := by simp [hf]
  have hrun : cpuMicroOp { s with queue := op :: rest } =
      { quietOp op s with queue := rest ++ op.follow (quietOp op s) } := by
    have := runMicroOp_of_plain (op := op) (rest := rest) hp hf hq
    rwa [hop, MicroOp.follow_queue] at this
  unfold microTick tickWith
  rw [startTick_of_plain hp, if_neg (by simp [hst]), if_neg (by simp [hfs]), hrun,
    endTick_of_plain (by simpa [State.plain] using (quietOp_plain op s).trans h)]

/-- The drain of a queue is its quiet run (40 R134, R138). -/
theorem drain_of_plain (n : Nat) {q : List MicroOp} {s : State} (h : s.plain) (hh : s.halted = none)
    (hf : s.fault = none) (hq : q.length ≤ 16) :
    drain n { s with queue := q } = quietRun n q s := by
  induction n generalizing q s with
  | zero => rfl
  | succ n ih =>
    cases q with
    | nil => simp [drain, quietRun]
    | cons op rest =>
      have hr : rest.length < 16 := by simpa using hq
      have hlen := op.follow_length (quietOp op s)
      rw [drain, quietRun]
      rw [if_neg (by simp [State.stopped, hh, hf]), microTick_of_plain h hh hf hr]
      by_cases hhalt : (quietOp op s).halted.isSome
      · rw [if_pos hhalt]
        cases n with
        | zero => rfl
        | succ n => simp [drain, State.stopped, hhalt]
      · rw [if_neg hhalt]
        exact ih (s := { quietOp op s with cycles := (quietOp op s).cycles + 1 })
          (by simpa [State.plain] using (quietOp_plain op s).trans h) (by simpa using hhalt)
          (by simpa using (quietOp_fault op s).trans hf) (by simp; omega)

/-- Everything an instruction does from a ready state: the quiet run of its cycles, T1's own cycle counted
first. -/
theorem runInstr_of_ready {cycles : List MicroOp} {s : State} (h : s.ready)
    (hlen : cycles.length ≤ 16) :
    runInstr cycles s =
      .next (quietRun (3 * cycles.length) cycles { s with cycles := s.cycles + 1 }) := by
  obtain ⟨hp, hh, hf, hq⟩ := s.ready_iff.1 h
  have hroom : 16 ≤ s.cfg.q := (s.plain_iff.1 hp).2.2.2
  have he : enqueue cycles s = some { s with queue := cycles } := by
    rw [enqueue_of_room (by simp [hq]; omega)]; simp [hq]
  unfold runInstr pushAll drainAll
  rw [he]
  dsimp only
  rw [endTick_of_plain (s := { s with queue := cycles }) (by simpa [State.plain] using hp)]
  exact congrArg _ (drain_of_plain _ (s := { s with cycles := s.cycles + 1 })
    (by simpa [State.plain] using hp) hh hf hlen)

/-- One cycle of a quiet run by a micro-op that does not halt. -/
theorem quietRun_cons {n : Nat} {op : MicroOp} {rest : List MicroOp} {s : State}
    (h : (quietOp op s).halted = none) :
    quietRun (n + 1) (op :: rest) s =
      quietRun n (rest ++ op.follow (quietOp op s))
        { quietOp op s with cycles := (quietOp op s).cycles + 1 } := by
  simp [quietRun, h]

@[simp] theorem quietRun_nil (n : Nat) (s : State) : quietRun n [] s = { s with queue := [] } := by
  cases n <;> rfl

end Sys2Proof.Machine
end

