-- ==== Sys2Proof/Laws/Exec.lean ====
section
/-!
SUPPORT. Every meaning is the run of its instruction's cycles, and in a plain environment that run is `quietRun`.
-/

namespace Sys2Proof.Machine

/-- Every meaning runs the cycles that FetchDecode pushes (40 R133). -/
theorem exec_eq_runInstr (i : Instr) (s : State) : exec i s = runInstr (cyclesOf i) s := by
  cases i <;> rfl

/-- No instruction pushes more than 6 cycles (40 R136). -/
theorem cyclesOf_length (i : Instr) : (cyclesOf i).length ≤ 6 := by
  cases i <;> decide

/-- Every instruction pushes at least one cycle. -/
theorem cyclesOf_ne_nil (i : Instr) : cyclesOf i ≠ [] := by
  cases i <;> decide

/-- Everything `exec` does from a ready state. -/
theorem exec_of_ready {i : Instr} {s : State} (h : s.ready) :
    exec i s =
      .next (quietRun (3 * (cyclesOf i).length) (cyclesOf i) { s with cycles := s.cycles + 1 }) := by
  rw [exec_eq_runInstr]
  exact runInstr_of_ready h ((cyclesOf_length i).trans (by decide))

end Sys2Proof.Machine
end

