-- ==== Sys2Proof/Laws/Flags.lean ====
section
/-!
SUPPORT. Reading a flag after writing one, and what the status byte on the stack holds.
-/

namespace Sys2Proof.Machine

theorem Flag.bit_lt (f : Flag) : f.bit < 8 := by cases f <;> decide

theorem Flag.bit_inj {f g : Flag} (h : f.bit = g.bit) : f = g := by
  cases f <;> cases g <;> first | rfl | simp [Flag.bit] at h

/-- A flag write changes its flag only (00 R11). -/
theorem getFlag_putFlag (p : Byte) (f g : Flag) (v : Bool) :
    getFlag (putFlag p f v) g = if g = f then v else getFlag p g := by
  have hg := g.bit_lt
  have hf := f.bit_lt
  by_cases h : g = f
  · subst h
    cases v <;> simp [getFlag, putFlag, hg]
  · have hb : ¬g.bit = f.bit := fun e => h (Flag.bit_inj e)
    cases v <;> simp [getFlag, putFlag, hg, h, hb]

@[simp] theorem getFlag_putFlag_self (p : Byte) (f : Flag) (v : Bool) :
    getFlag (putFlag p f v) f = v := by
  simp [getFlag_putFlag]

theorem getFlag_putFlag_of_ne {f g : Flag} (p : Byte) (v : Bool) (h : g ≠ f) :
    getFlag (putFlag p f v) g = getFlag p g := by
  simp [getFlag_putFlag, h]

/-- `setNZ` writes N and Z only (00 R11). -/
theorem getFlag_putNZ (p v : Byte) (g : Flag) :
    getFlag (putNZ p v) g =
      if g = .z then decide (v = 0#8) else if g = .n then v.msb else getFlag p g := by
  simp [putNZ, getFlag_putFlag]

/-- The pushed status byte has R = 1, B as the event says, and the other flags of P (10 R38). -/
theorem getFlag_statusPushed (p : Byte) (b : Bool) (g : Flag) :
    getFlag (statusPushed p b) g = if g = .r then true else if g = .b then b else getFlag p g := by
  cases b <;> cases g <;> simp [getFlag, statusPushed, Flag.bit]

end Sys2Proof.Machine
end

