-- ==== Sys2Proof/Laws/PerInstr.lean ====
section
/-!
SUPPORT. The per-instruction family Encoding: under every configuration that can be built, the opcode byte of a
registered instruction decodes to it, and its bytes are as many as its mode says.
-/

namespace Sys2Proof.Laws.Encoding

/-- The opcode byte decodes to the instruction (30 R105, R112), and an operand is spelled by as many bytes as
the mode has (30 R100). -/
def Statement (i : Instr) : Prop :=
  (∀ cfg : Config, cfg.wellFormed → i.registered cfg → decodeOpcode cfg (i.opcode cfg) = some i) ∧
    ∀ operand, (operandToBytes i.operandBytes operand).length + 1 = i.length

theorem length_operandToBytes (n operand : Nat) : (operandToBytes n operand).length = n := by
  induction n generalizing operand with
  | zero => rfl
  | succ n ih => simp [operandToBytes, ih]

theorem length_law (i : Instr) (operand : Nat) :
    (operandToBytes i.operandBytes operand).length + 1 = i.length := by
  rw [length_operandToBytes, Instr.length, Nat.add_comm]

/-- The statement of an instruction whose opcode no configuration moves (30 R103). -/
theorem of_documented {i : Instr} {b : Byte} (hb : ∀ cfg, i.opcode cfg = b)
    (hd : documented b = some i) : Statement i :=
  ⟨fun cfg _ _ => by simp [decodeOpcode, hb cfg, hd], length_law i⟩

theorem ldaImm : Statement .ldaImm := of_documented (fun _ => rfl) (by decide)

theorem ldaZp : Statement .ldaZp := of_documented (fun _ => rfl) (by decide)

theorem ldaZpx : Statement .ldaZpx := of_documented (fun _ => rfl) (by decide)

theorem ldaAbs : Statement .ldaAbs := of_documented (fun _ => rfl) (by decide)

theorem ldaAbx : Statement .ldaAbx := of_documented (fun _ => rfl) (by decide)

theorem ldaAby : Statement .ldaAby := of_documented (fun _ => rfl) (by decide)

theorem ldaIzx : Statement .ldaIzx := of_documented (fun _ => rfl) (by decide)

theorem ldaIzy : Statement .ldaIzy := of_documented (fun _ => rfl) (by decide)

theorem ldxImm : Statement .ldxImm := of_documented (fun _ => rfl) (by decide)

theorem ldxZp : Statement .ldxZp := of_documented (fun _ => rfl) (by decide)

theorem ldxZpy : Statement .ldxZpy := of_documented (fun _ => rfl) (by decide)

theorem ldxAbs : Statement .ldxAbs := of_documented (fun _ => rfl) (by decide)

theorem ldxAby : Statement .ldxAby := of_documented (fun _ => rfl) (by decide)

theorem ldyImm : Statement .ldyImm := of_documented (fun _ => rfl) (by decide)

theorem ldyZp : Statement .ldyZp := of_documented (fun _ => rfl) (by decide)

theorem ldyZpx : Statement .ldyZpx := of_documented (fun _ => rfl) (by decide)

theorem ldyAbs : Statement .ldyAbs := of_documented (fun _ => rfl) (by decide)

theorem ldyAbx : Statement .ldyAbx := of_documented (fun _ => rfl) (by decide)

theorem staZp : Statement .staZp := of_documented (fun _ => rfl) (by decide)

theorem staZpx : Statement .staZpx := of_documented (fun _ => rfl) (by decide)

theorem staAbs : Statement .staAbs := of_documented (fun _ => rfl) (by decide)

theorem staAbx : Statement .staAbx := of_documented (fun _ => rfl) (by decide)

theorem staAby : Statement .staAby := of_documented (fun _ => rfl) (by decide)

theorem staIzx : Statement .staIzx := of_documented (fun _ => rfl) (by decide)

theorem staIzy : Statement .staIzy := of_documented (fun _ => rfl) (by decide)

theorem stxZp : Statement .stxZp := of_documented (fun _ => rfl) (by decide)

theorem stxZpy : Statement .stxZpy := of_documented (fun _ => rfl) (by decide)

theorem stxAbs : Statement .stxAbs := of_documented (fun _ => rfl) (by decide)

theorem styZp : Statement .styZp := of_documented (fun _ => rfl) (by decide)

theorem styZpx : Statement .styZpx := of_documented (fun _ => rfl) (by decide)

theorem styAbs : Statement .styAbs := of_documented (fun _ => rfl) (by decide)

theorem tax : Statement .tax := of_documented (fun _ => rfl) (by decide)

theorem tay : Statement .tay := of_documented (fun _ => rfl) (by decide)

theorem txa : Statement .txa := of_documented (fun _ => rfl) (by decide)

theorem tya : Statement .tya := of_documented (fun _ => rfl) (by decide)

theorem tsx : Statement .tsx := of_documented (fun _ => rfl) (by decide)

theorem txs : Statement .txs := of_documented (fun _ => rfl) (by decide)

theorem adcImm : Statement .adcImm := of_documented (fun _ => rfl) (by decide)

theorem adcZp : Statement .adcZp := of_documented (fun _ => rfl) (by decide)

theorem adcZpx : Statement .adcZpx := of_documented (fun _ => rfl) (by decide)

theorem adcAbs : Statement .adcAbs := of_documented (fun _ => rfl) (by decide)

theorem adcAbx : Statement .adcAbx := of_documented (fun _ => rfl) (by decide)

theorem adcAby : Statement .adcAby := of_documented (fun _ => rfl) (by decide)

theorem adcIzx : Statement .adcIzx := of_documented (fun _ => rfl) (by decide)

theorem adcIzy : Statement .adcIzy := of_documented (fun _ => rfl) (by decide)

theorem sbcImm : Statement .sbcImm := of_documented (fun _ => rfl) (by decide)

theorem sbcZp : Statement .sbcZp := of_documented (fun _ => rfl) (by decide)

theorem sbcZpx : Statement .sbcZpx := of_documented (fun _ => rfl) (by decide)

theorem sbcAbs : Statement .sbcAbs := of_documented (fun _ => rfl) (by decide)

theorem sbcAbx : Statement .sbcAbx := of_documented (fun _ => rfl) (by decide)

theorem sbcAby : Statement .sbcAby := of_documented (fun _ => rfl) (by decide)

theorem sbcIzx : Statement .sbcIzx := of_documented (fun _ => rfl) (by decide)

theorem sbcIzy : Statement .sbcIzy := of_documented (fun _ => rfl) (by decide)

theorem andImm : Statement .andImm := of_documented (fun _ => rfl) (by decide)

theorem andZp : Statement .andZp := of_documented (fun _ => rfl) (by decide)

theorem andZpx : Statement .andZpx := of_documented (fun _ => rfl) (by decide)

theorem andAbs : Statement .andAbs := of_documented (fun _ => rfl) (by decide)

theorem andAbx : Statement .andAbx := of_documented (fun _ => rfl) (by decide)

theorem andAby : Statement .andAby := of_documented (fun _ => rfl) (by decide)

theorem andIzx : Statement .andIzx := of_documented (fun _ => rfl) (by decide)

theorem andIzy : Statement .andIzy := of_documented (fun _ => rfl) (by decide)

theorem oraImm : Statement .oraImm := of_documented (fun _ => rfl) (by decide)

theorem oraZp : Statement .oraZp := of_documented (fun _ => rfl) (by decide)

theorem oraZpx : Statement .oraZpx := of_documented (fun _ => rfl) (by decide)

theorem oraAbs : Statement .oraAbs := of_documented (fun _ => rfl) (by decide)

theorem oraAbx : Statement .oraAbx := of_documented (fun _ => rfl) (by decide)

theorem oraAby : Statement .oraAby := of_documented (fun _ => rfl) (by decide)

theorem oraIzx : Statement .oraIzx := of_documented (fun _ => rfl) (by decide)

theorem oraIzy : Statement .oraIzy := of_documented (fun _ => rfl) (by decide)

theorem eorImm : Statement .eorImm := of_documented (fun _ => rfl) (by decide)

theorem eorZp : Statement .eorZp := of_documented (fun _ => rfl) (by decide)

theorem eorZpx : Statement .eorZpx := of_documented (fun _ => rfl) (by decide)

theorem eorAbs : Statement .eorAbs := of_documented (fun _ => rfl) (by decide)

theorem eorAbx : Statement .eorAbx := of_documented (fun _ => rfl) (by decide)

theorem eorAby : Statement .eorAby := of_documented (fun _ => rfl) (by decide)

theorem eorIzx : Statement .eorIzx := of_documented (fun _ => rfl) (by decide)

theorem eorIzy : Statement .eorIzy := of_documented (fun _ => rfl) (by decide)

theorem cmpImm : Statement .cmpImm := of_documented (fun _ => rfl) (by decide)

theorem cmpZp : Statement .cmpZp := of_documented (fun _ => rfl) (by decide)

theorem cmpZpx : Statement .cmpZpx := of_documented (fun _ => rfl) (by decide)

theorem cmpAbs : Statement .cmpAbs := of_documented (fun _ => rfl) (by decide)

theorem cmpAbx : Statement .cmpAbx := of_documented (fun _ => rfl) (by decide)

theorem cmpAby : Statement .cmpAby := of_documented (fun _ => rfl) (by decide)

theorem cmpIzx : Statement .cmpIzx := of_documented (fun _ => rfl) (by decide)

theorem cmpIzy : Statement .cmpIzy := of_documented (fun _ => rfl) (by decide)

theorem cpxImm : Statement .cpxImm := of_documented (fun _ => rfl) (by decide)

theorem cpxZp : Statement .cpxZp := of_documented (fun _ => rfl) (by decide)

theorem cpxAbs : Statement .cpxAbs := of_documented (fun _ => rfl) (by decide)

theorem cpyImm : Statement .cpyImm := of_documented (fun _ => rfl) (by decide)

theorem cpyZp : Statement .cpyZp := of_documented (fun _ => rfl) (by decide)

theorem cpyAbs : Statement .cpyAbs := of_documented (fun _ => rfl) (by decide)

theorem bitZp : Statement .bitZp := of_documented (fun _ => rfl) (by decide)

theorem bitAbs : Statement .bitAbs := of_documented (fun _ => rfl) (by decide)

theorem aslZp : Statement .aslZp := of_documented (fun _ => rfl) (by decide)

theorem aslZpx : Statement .aslZpx := of_documented (fun _ => rfl) (by decide)

theorem aslAbs : Statement .aslAbs := of_documented (fun _ => rfl) (by decide)

theorem aslAbx : Statement .aslAbx := of_documented (fun _ => rfl) (by decide)

theorem aslAcc : Statement .aslAcc := of_documented (fun _ => rfl) (by decide)

theorem lsrZp : Statement .lsrZp := of_documented (fun _ => rfl) (by decide)

theorem lsrZpx : Statement .lsrZpx := of_documented (fun _ => rfl) (by decide)

theorem lsrAbs : Statement .lsrAbs := of_documented (fun _ => rfl) (by decide)

theorem lsrAbx : Statement .lsrAbx := of_documented (fun _ => rfl) (by decide)

theorem lsrAcc : Statement .lsrAcc := of_documented (fun _ => rfl) (by decide)

theorem rolZp : Statement .rolZp := of_documented (fun _ => rfl) (by decide)

theorem rolZpx : Statement .rolZpx := of_documented (fun _ => rfl) (by decide)

theorem rolAbs : Statement .rolAbs := of_documented (fun _ => rfl) (by decide)

theorem rolAbx : Statement .rolAbx := of_documented (fun _ => rfl) (by decide)

theorem rolAcc : Statement .rolAcc := of_documented (fun _ => rfl) (by decide)

theorem rorZp : Statement .rorZp := of_documented (fun _ => rfl) (by decide)

theorem rorZpx : Statement .rorZpx := of_documented (fun _ => rfl) (by decide)

theorem rorAbs : Statement .rorAbs := of_documented (fun _ => rfl) (by decide)

theorem rorAbx : Statement .rorAbx := of_documented (fun _ => rfl) (by decide)

theorem rorAcc : Statement .rorAcc := of_documented (fun _ => rfl) (by decide)

theorem incZp : Statement .incZp := of_documented (fun _ => rfl) (by decide)

theorem incZpx : Statement .incZpx := of_documented (fun _ => rfl) (by decide)

theorem incAbs : Statement .incAbs := of_documented (fun _ => rfl) (by decide)

theorem incAbx : Statement .incAbx := of_documented (fun _ => rfl) (by decide)

theorem decZp : Statement .decZp := of_documented (fun _ => rfl) (by decide)

theorem decZpx : Statement .decZpx := of_documented (fun _ => rfl) (by decide)

theorem decAbs : Statement .decAbs := of_documented (fun _ => rfl) (by decide)

theorem decAbx : Statement .decAbx := of_documented (fun _ => rfl) (by decide)

theorem inx : Statement .inx := of_documented (fun _ => rfl) (by decide)

theorem iny : Statement .iny := of_documented (fun _ => rfl) (by decide)

theorem dex : Statement .dex := of_documented (fun _ => rfl) (by decide)

theorem dey : Statement .dey := of_documented (fun _ => rfl) (by decide)

theorem pha : Statement .pha := of_documented (fun _ => rfl) (by decide)

theorem php : Statement .php := of_documented (fun _ => rfl) (by decide)

theorem pla : Statement .pla := of_documented (fun _ => rfl) (by decide)

theorem plp : Statement .plp := of_documented (fun _ => rfl) (by decide)

theorem jmpAbs : Statement .jmpAbs := of_documented (fun _ => rfl) (by decide)

theorem jmpInd : Statement .jmpInd := of_documented (fun _ => rfl) (by decide)

theorem jsr : Statement .jsr := of_documented (fun _ => rfl) (by decide)

theorem rts : Statement .rts := of_documented (fun _ => rfl) (by decide)

theorem rti : Statement .rti := of_documented (fun _ => rfl) (by decide)

theorem brk : Statement .brk := of_documented (fun _ => rfl) (by decide)

theorem bcc : Statement .bcc := of_documented (fun _ => rfl) (by decide)

theorem bcs : Statement .bcs := of_documented (fun _ => rfl) (by decide)

theorem beq : Statement .beq := of_documented (fun _ => rfl) (by decide)

theorem bmi : Statement .bmi := of_documented (fun _ => rfl) (by decide)

theorem bne : Statement .bne := of_documented (fun _ => rfl) (by decide)

theorem bpl : Statement .bpl := of_documented (fun _ => rfl) (by decide)

theorem bvc : Statement .bvc := of_documented (fun _ => rfl) (by decide)

theorem bvs : Statement .bvs := of_documented (fun _ => rfl) (by decide)

theorem clc : Statement .clc := of_documented (fun _ => rfl) (by decide)

theorem sec : Statement .sec := of_documented (fun _ => rfl) (by decide)

theorem cli : Statement .cli := of_documented (fun _ => rfl) (by decide)

theorem sei : Statement .sei := of_documented (fun _ => rfl) (by decide)

theorem cld : Statement .cld := of_documented (fun _ => rfl) (by decide)

theorem sed : Statement .sed := of_documented (fun _ => rfl) (by decide)

theorem clv : Statement .clv := of_documented (fun _ => rfl) (by decide)

theorem nop : Statement .nop := of_documented (fun _ => rfl) (by decide)

/-- What a configuration that can be built guarantees of the debug opcodes (30 R107). -/
theorem debug_opcodes {cfg : Config} (h : cfg.wellFormed) :
    cfg.opcHalt ≠ cfg.opcTest ∧ cfg.opcHalt ≠ cfg.opcTrap ∧ cfg.opcTest ≠ cfg.opcTrap ∧
      documented cfg.opcHalt = none ∧ documented cfg.opcTest = none ∧ documented cfg.opcTrap = none := by
  simp only [Config.wellFormed, Bool.and_eq_true, decide_eq_true_eq, Option.isNone_iff_eq_none,
    and_assoc] at h
  exact h.2

theorem halt : Statement .halt := by
  refine ⟨fun cfg h hr => ?_, length_law _⟩
  have hd : cfg.debugExt = true := by simpa [Instr.registered, Instr.isDebug] using hr
  obtain ⟨-, -, -, h4, -, -⟩ := debug_opcodes h
  simp [decodeOpcode, Instr.opcode, hd, h4]

theorem test : Statement .test := by
  refine ⟨fun cfg h hr => ?_, length_law _⟩
  have hd : cfg.debugExt = true := by simpa [Instr.registered, Instr.isDebug] using hr
  obtain ⟨h1, -, -, -, h5, -⟩ := debug_opcodes h
  simp [decodeOpcode, Instr.opcode, hd, h5, h1.symm]

theorem trap : Statement .trap := by
  refine ⟨fun cfg h hr => ?_, length_law _⟩
  have hd : cfg.debugExt = true := by simpa [Instr.registered, Instr.isDebug] using hr
  obtain ⟨-, h2, h3, -, -, h6⟩ := debug_opcodes h
  simp [decodeOpcode, Instr.opcode, hd, h6, h2.symm, h3.symm]

end Sys2Proof.Laws.Encoding
end

