-- ==== Sys2Proof/Laws/Registry.lean ====
section
/-!
SUPPORT. The registry as a map of (instruction, mode) pairs: which instruction a pair is the key of, and everything
`encode` can answer.
-/

namespace Sys2Proof

theorem mem_registeredInstrs (cfg : Config) (i : Instr) : i ∈ registeredInstrs cfg ↔ i.registered cfg := by
  unfold registeredInstrs Instr.registered
  cases cfg.debugExt <;> cases i <;> decide +kernel

/-- No two instructions share a mnemonic and a mode (30 R112). -/
theorem Instr.eq_of_pair {i j : Instr} (hm : i.mnemonic = j.mnemonic) (hd : i.mode = j.mode) : i = j := by
  have key : ∀ i ∈ registeredInstrs {}, keyOf {} i.mnemonic i.mode = some i := by
    decide +kernel
  have found (k : Instr) : keyOf {} k.mnemonic k.mode = some k :=
    key k ((mem_registeredInstrs {} k).2 (by simp [Instr.registered]))
  exact Option.some.inj ((found i).symm.trans (hm ▸ hd ▸ found j))

/-- A pair is the key of a registered instruction exactly where it is that instruction's pair (30 R109). -/
theorem keyOf_eq_some {cfg : Config} {m : Mnemonic} {mode : Mode} {i : Instr} :
    keyOf cfg m mode = some i ↔ i.registered cfg ∧ i.mnemonic = m ∧ i.mode = mode := by
  constructor
  · intro h
    exact ⟨(mem_registeredInstrs cfg i).1 (List.mem_of_find?_eq_some h), by simpa using List.find?_some h⟩
  · rintro ⟨hr, rfl, rfl⟩
    cases h : keyOf cfg i.mnemonic i.mode with
    | none =>
      have := List.find?_eq_none.1 h i ((mem_registeredInstrs cfg i).2 hr)
      simp at this
    | some j =>
      have hj : j.mnemonic = i.mnemonic ∧ j.mode = i.mode := by simpa using List.find?_some h
      rw [Instr.eq_of_pair hj.1 hj.2]

/-- A pair is unregistered exactly where it is no registered instruction's. -/
theorem keyOf_eq_none {cfg : Config} {m : Mnemonic} {mode : Mode} :
    keyOf cfg m mode = none ↔ ∀ i : Instr, i.registered cfg → ¬(i.mnemonic = m ∧ i.mode = mode) := by
  rw [Option.eq_none_iff_forall_ne_some]
  simp only [ne_eq, keyOf_eq_some, not_and]

/-- Everything `encode` answers (30 R110). -/
theorem encode_cases (cfg : Config) (m : Mnemonic) (mode : Mode) (operand : Nat) :
    (keyOf cfg m mode = none ∧ encode cfg m mode operand = .error .unregistered) ∨
    ∃ i : Instr, i.registered cfg ∧ i.mnemonic = m ∧ i.mode = mode ∧
      ((i.operandFits operand = false ∧ encode cfg m mode operand = .error .operandOutOfRange) ∨
        (i.operandFits operand ∧
          encode cfg m mode operand = .ok (i.opcode cfg :: operandToBytes i.operandBytes operand))) := by
  cases h : keyOf cfg m mode with
  | none => exact .inl ⟨rfl, by simp [encode, h]⟩
  | some i =>
    obtain ⟨hr, hm, rfl⟩ := keyOf_eq_some.1 h
    refine .inr ⟨i, hr, hm, rfl, ?_⟩
    by_cases hf : 256 ^ i.mode.operandBytes ≤ operand
    · exact .inl ⟨decide_eq_false (not_lt.2 hf), by simp [encode, h, hf]⟩
    · exact .inr ⟨decide_eq_true (not_le.1 hf), by simp [encode, h, hf, Instr.operandBytes]⟩

end Sys2Proof
end

