-- ==== Sys2Proof/Laws/State.lean ====
section
/-!
SUPPORT. What each named update of State does to each field, by rfl: no proof needs to unfold a record update.
-/

namespace Sys2Proof.Machine

/-! ## State.advance -/

@[simp] theorem State.advance_a (s : State) : s.advance.a = s.a := rfl
@[simp] theorem State.advance_x (s : State) : s.advance.x = s.x := rfl
@[simp] theorem State.advance_y (s : State) : s.advance.y = s.y := rfl
@[simp] theorem State.advance_sp (s : State) : s.advance.sp = s.sp := rfl
@[simp] theorem State.advance_pc (s : State) : s.advance.pc = s.pc + 1#16 := rfl
@[simp] theorem State.advance_p (s : State) : s.advance.p = s.p := rfl
@[simp] theorem State.advance_resetPending (s : State) : s.advance.resetPending = s.resetPending := rfl
@[simp] theorem State.advance_nmiLatch (s : State) : s.advance.nmiLatch = s.nmiLatch := rfl
@[simp] theorem State.advance_nmiPrev (s : State) : s.advance.nmiPrev = s.nmiPrev := rfl
@[simp] theorem State.advance_snapReq (s : State) : s.advance.snapReq = s.snapReq := rfl
@[simp] theorem State.advance_captured (s : State) : s.advance.captured = s.captured := rfl
@[simp] theorem State.advance_servicing (s : State) : s.advance.servicing = s.servicing := rfl
@[simp] theorem State.advance_svcKind (s : State) : s.advance.svcKind = s.svcKind := rfl
@[simp] theorem State.advance_tmp (s : State) : s.advance.tmp = s.tmp := rfl
@[simp] theorem State.advance_halted (s : State) : s.advance.halted = s.halted := rfl
@[simp] theorem State.advance_fault (s : State) : s.advance.fault = s.fault := rfl
@[simp] theorem State.advance_cycles (s : State) : s.advance.cycles = s.cycles := rfl
@[simp] theorem State.advance_queue (s : State) : s.advance.queue = s.queue := rfl
@[simp] theorem State.advance_mem (s : State) : s.advance.mem = s.mem := rfl
@[simp] theorem State.advance_bus (s : State) : s.advance.bus = s.bus := rfl
@[simp] theorem State.advance_busDraws (s : State) : s.advance.busDraws = s.busDraws := rfl
@[simp] theorem State.advance_codeDraws (s : State) : s.advance.codeDraws = s.codeDraws := rfl
@[simp] theorem State.advance_irqLines (s : State) : s.advance.irqLines = s.irqLines := rfl
@[simp] theorem State.advance_nmiLines (s : State) : s.advance.nmiLines = s.nmiLines := rfl
@[simp] theorem State.advance_devices (s : State) : s.advance.devices = s.devices := rfl
@[simp] theorem State.advance_intercepts (s : State) : s.advance.intercepts = s.intercepts := rfl
@[simp] theorem State.advance_sched (s : State) : s.advance.sched = s.sched := rfl
@[simp] theorem State.advance_clock (s : State) : s.advance.clock = s.clock := rfl
@[simp] theorem State.advance_cfg (s : State) : s.advance.cfg = s.cfg := rfl

/-! ## State.latchLo -/

@[simp] theorem State.latchLo_a (s : State) (v : Byte) : (s.latchLo v).a = s.a := rfl
@[simp] theorem State.latchLo_x (s : State) (v : Byte) : (s.latchLo v).x = s.x := rfl
@[simp] theorem State.latchLo_y (s : State) (v : Byte) : (s.latchLo v).y = s.y := rfl
@[simp] theorem State.latchLo_sp (s : State) (v : Byte) : (s.latchLo v).sp = s.sp := rfl
@[simp] theorem State.latchLo_pc (s : State) (v : Byte) : (s.latchLo v).pc = s.pc := rfl
@[simp] theorem State.latchLo_p (s : State) (v : Byte) : (s.latchLo v).p = s.p := rfl
@[simp] theorem State.latchLo_resetPending (s : State) (v : Byte) :
    (s.latchLo v).resetPending = s.resetPending := rfl
@[simp] theorem State.latchLo_nmiLatch (s : State) (v : Byte) : (s.latchLo v).nmiLatch = s.nmiLatch := rfl
@[simp] theorem State.latchLo_nmiPrev (s : State) (v : Byte) : (s.latchLo v).nmiPrev = s.nmiPrev := rfl
@[simp] theorem State.latchLo_snapReq (s : State) (v : Byte) : (s.latchLo v).snapReq = s.snapReq := rfl
@[simp] theorem State.latchLo_captured (s : State) (v : Byte) : (s.latchLo v).captured = s.captured := rfl
@[simp] theorem State.latchLo_servicing (s : State) (v : Byte) : (s.latchLo v).servicing = s.servicing := rfl
@[simp] theorem State.latchLo_svcKind (s : State) (v : Byte) : (s.latchLo v).svcKind = s.svcKind := rfl
@[simp] theorem State.latchLo_tmp (s : State) (v : Byte) : (s.latchLo v).tmp = { s.tmp with lo := v } := rfl
@[simp] theorem State.latchLo_halted (s : State) (v : Byte) : (s.latchLo v).halted = s.halted := rfl
@[simp] theorem State.latchLo_fault (s : State) (v : Byte) : (s.latchLo v).fault = s.fault := rfl
@[simp] theorem State.latchLo_cycles (s : State) (v : Byte) : (s.latchLo v).cycles = s.cycles := rfl
@[simp] theorem State.latchLo_queue (s : State) (v : Byte) : (s.latchLo v).queue = s.queue := rfl
@[simp] theorem State.latchLo_mem (s : State) (v : Byte) : (s.latchLo v).mem = s.mem := rfl
@[simp] theorem State.latchLo_bus (s : State) (v : Byte) : (s.latchLo v).bus = s.bus := rfl
@[simp] theorem State.latchLo_busDraws (s : State) (v : Byte) : (s.latchLo v).busDraws = s.busDraws := rfl
@[simp] theorem State.latchLo_codeDraws (s : State) (v : Byte) : (s.latchLo v).codeDraws = s.codeDraws := rfl
@[simp] theorem State.latchLo_irqLines (s : State) (v : Byte) : (s.latchLo v).irqLines = s.irqLines := rfl
@[simp] theorem State.latchLo_nmiLines (s : State) (v : Byte) : (s.latchLo v).nmiLines = s.nmiLines := rfl
@[simp] theorem State.latchLo_devices (s : State) (v : Byte) : (s.latchLo v).devices = s.devices := rfl
@[simp] theorem State.latchLo_intercepts (s : State) (v : Byte) :
    (s.latchLo v).intercepts = s.intercepts := rfl
@[simp] theorem State.latchLo_sched (s : State) (v : Byte) : (s.latchLo v).sched = s.sched := rfl
@[simp] theorem State.latchLo_clock (s : State) (v : Byte) : (s.latchLo v).clock = s.clock := rfl
@[simp] theorem State.latchLo_cfg (s : State) (v : Byte) : (s.latchLo v).cfg = s.cfg := rfl

/-! ## State.latchHi -/

@[simp] theorem State.latchHi_a (s : State) (v : Byte) : (s.latchHi v).a = s.a := rfl
@[simp] theorem State.latchHi_x (s : State) (v : Byte) : (s.latchHi v).x = s.x := rfl
@[simp] theorem State.latchHi_y (s : State) (v : Byte) : (s.latchHi v).y = s.y := rfl
@[simp] theorem State.latchHi_sp (s : State) (v : Byte) : (s.latchHi v).sp = s.sp := rfl
@[simp] theorem State.latchHi_pc (s : State) (v : Byte) : (s.latchHi v).pc = s.pc := rfl
@[simp] theorem State.latchHi_p (s : State) (v : Byte) : (s.latchHi v).p = s.p := rfl
@[simp] theorem State.latchHi_resetPending (s : State) (v : Byte) :
    (s.latchHi v).resetPending = s.resetPending := rfl
@[simp] theorem State.latchHi_nmiLatch (s : State) (v : Byte) : (s.latchHi v).nmiLatch = s.nmiLatch := rfl
@[simp] theorem State.latchHi_nmiPrev (s : State) (v : Byte) : (s.latchHi v).nmiPrev = s.nmiPrev := rfl
@[simp] theorem State.latchHi_snapReq (s : State) (v : Byte) : (s.latchHi v).snapReq = s.snapReq := rfl
@[simp] theorem State.latchHi_captured (s : State) (v : Byte) : (s.latchHi v).captured = s.captured := rfl
@[simp] theorem State.latchHi_servicing (s : State) (v : Byte) : (s.latchHi v).servicing = s.servicing := rfl
@[simp] theorem State.latchHi_svcKind (s : State) (v : Byte) : (s.latchHi v).svcKind = s.svcKind := rfl
@[simp] theorem State.latchHi_tmp (s : State) (v : Byte) : (s.latchHi v).tmp = { s.tmp with hi := v } := rfl
@[simp] theorem State.latchHi_halted (s : State) (v : Byte) : (s.latchHi v).halted = s.halted := rfl
@[simp] theorem State.latchHi_fault (s : State) (v : Byte) : (s.latchHi v).fault = s.fault := rfl
@[simp] theorem State.latchHi_cycles (s : State) (v : Byte) : (s.latchHi v).cycles = s.cycles := rfl
@[simp] theorem State.latchHi_queue (s : State) (v : Byte) : (s.latchHi v).queue = s.queue := rfl
@[simp] theorem State.latchHi_mem (s : State) (v : Byte) : (s.latchHi v).mem = s.mem := rfl
@[simp] theorem State.latchHi_bus (s : State) (v : Byte) : (s.latchHi v).bus = s.bus := rfl
@[simp] theorem State.latchHi_busDraws (s : State) (v : Byte) : (s.latchHi v).busDraws = s.busDraws := rfl
@[simp] theorem State.latchHi_codeDraws (s : State) (v : Byte) : (s.latchHi v).codeDraws = s.codeDraws := rfl
@[simp] theorem State.latchHi_irqLines (s : State) (v : Byte) : (s.latchHi v).irqLines = s.irqLines := rfl
@[simp] theorem State.latchHi_nmiLines (s : State) (v : Byte) : (s.latchHi v).nmiLines = s.nmiLines := rfl
@[simp] theorem State.latchHi_devices (s : State) (v : Byte) : (s.latchHi v).devices = s.devices := rfl
@[simp] theorem State.latchHi_intercepts (s : State) (v : Byte) :
    (s.latchHi v).intercepts = s.intercepts := rfl
@[simp] theorem State.latchHi_sched (s : State) (v : Byte) : (s.latchHi v).sched = s.sched := rfl
@[simp] theorem State.latchHi_clock (s : State) (v : Byte) : (s.latchHi v).clock = s.clock := rfl
@[simp] theorem State.latchHi_cfg (s : State) (v : Byte) : (s.latchHi v).cfg = s.cfg := rfl

/-! ## State.addIndex -/

@[simp] theorem State.addIndex_a (s : State) (lo index : Byte) : (s.addIndex lo index).a = s.a := rfl
@[simp] theorem State.addIndex_x (s : State) (lo index : Byte) : (s.addIndex lo index).x = s.x := rfl
@[simp] theorem State.addIndex_y (s : State) (lo index : Byte) : (s.addIndex lo index).y = s.y := rfl
@[simp] theorem State.addIndex_sp (s : State) (lo index : Byte) : (s.addIndex lo index).sp = s.sp := rfl
@[simp] theorem State.addIndex_pc (s : State) (lo index : Byte) : (s.addIndex lo index).pc = s.pc := rfl
@[simp] theorem State.addIndex_p (s : State) (lo index : Byte) : (s.addIndex lo index).p = s.p := rfl
@[simp] theorem State.addIndex_resetPending (s : State) (lo index : Byte) :
    (s.addIndex lo index).resetPending = s.resetPending := rfl
@[simp] theorem State.addIndex_nmiLatch (s : State) (lo index : Byte) :
    (s.addIndex lo index).nmiLatch = s.nmiLatch := rfl
@[simp] theorem State.addIndex_nmiPrev (s : State) (lo index : Byte) :
    (s.addIndex lo index).nmiPrev = s.nmiPrev := rfl
@[simp] theorem State.addIndex_snapReq (s : State) (lo index : Byte) :
    (s.addIndex lo index).snapReq = s.snapReq := rfl
@[simp] theorem State.addIndex_captured (s : State) (lo index : Byte) :
    (s.addIndex lo index).captured = s.captured := rfl
@[simp] theorem State.addIndex_servicing (s : State) (lo index : Byte) :
    (s.addIndex lo index).servicing = s.servicing := rfl
@[simp] theorem State.addIndex_svcKind (s : State) (lo index : Byte) :
    (s.addIndex lo index).svcKind = s.svcKind := rfl
@[simp] theorem State.addIndex_tmp (s : State) (lo index : Byte) :
    (s.addIndex lo index).tmp = { s.tmp with carry := carries lo index, lo := lo + index } := rfl
@[simp] theorem State.addIndex_halted (s : State) (lo index : Byte) :
    (s.addIndex lo index).halted = s.halted := rfl
@[simp] theorem State.addIndex_fault (s : State) (lo index : Byte) :
    (s.addIndex lo index).fault = s.fault := rfl
@[simp] theorem State.addIndex_cycles (s : State) (lo index : Byte) :
    (s.addIndex lo index).cycles = s.cycles := rfl
@[simp] theorem State.addIndex_queue (s : State) (lo index : Byte) :
    (s.addIndex lo index).queue = s.queue := rfl
@[simp] theorem State.addIndex_mem (s : State) (lo index : Byte) : (s.addIndex lo index).mem = s.mem := rfl
@[simp] theorem State.addIndex_bus (s : State) (lo index : Byte) : (s.addIndex lo index).bus = s.bus := rfl
@[simp] theorem State.addIndex_busDraws (s : State) (lo index : Byte) :
    (s.addIndex lo index).busDraws = s.busDraws := rfl
@[simp] theorem State.addIndex_codeDraws (s : State) (lo index : Byte) :
    (s.addIndex lo index).codeDraws = s.codeDraws := rfl
@[simp] theorem State.addIndex_irqLines (s : State) (lo index : Byte) :
    (s.addIndex lo index).irqLines = s.irqLines := rfl
@[simp] theorem State.addIndex_nmiLines (s : State) (lo index : Byte) :
    (s.addIndex lo index).nmiLines = s.nmiLines := rfl
@[simp] theorem State.addIndex_devices (s : State) (lo index : Byte) :
    (s.addIndex lo index).devices = s.devices := rfl
@[simp] theorem State.addIndex_intercepts (s : State) (lo index : Byte) :
    (s.addIndex lo index).intercepts = s.intercepts := rfl
@[simp] theorem State.addIndex_sched (s : State) (lo index : Byte) :
    (s.addIndex lo index).sched = s.sched := rfl
@[simp] theorem State.addIndex_clock (s : State) (lo index : Byte) :
    (s.addIndex lo index).clock = s.clock := rfl
@[simp] theorem State.addIndex_cfg (s : State) (lo index : Byte) : (s.addIndex lo index).cfg = s.cfg := rfl

/-! ## State.decS -/

@[simp] theorem State.decS_a (s : State) : s.decS.a = s.a := rfl
@[simp] theorem State.decS_x (s : State) : s.decS.x = s.x := rfl
@[simp] theorem State.decS_y (s : State) : s.decS.y = s.y := rfl
@[simp] theorem State.decS_sp (s : State) : s.decS.sp = s.sp - 1#8 := rfl
@[simp] theorem State.decS_pc (s : State) : s.decS.pc = s.pc := rfl
@[simp] theorem State.decS_p (s : State) : s.decS.p = s.p := rfl
@[simp] theorem State.decS_resetPending (s : State) : s.decS.resetPending = s.resetPending := rfl
@[simp] theorem State.decS_nmiLatch (s : State) : s.decS.nmiLatch = s.nmiLatch := rfl
@[simp] theorem State.decS_nmiPrev (s : State) : s.decS.nmiPrev = s.nmiPrev := rfl
@[simp] theorem State.decS_snapReq (s : State) : s.decS.snapReq = s.snapReq := rfl
@[simp] theorem State.decS_captured (s : State) : s.decS.captured = s.captured := rfl
@[simp] theorem State.decS_servicing (s : State) : s.decS.servicing = s.servicing := rfl
@[simp] theorem State.decS_svcKind (s : State) : s.decS.svcKind = s.svcKind := rfl
@[simp] theorem State.decS_tmp (s : State) : s.decS.tmp = s.tmp := rfl
@[simp] theorem State.decS_halted (s : State) : s.decS.halted = s.halted := rfl
@[simp] theorem State.decS_fault (s : State) : s.decS.fault = s.fault := rfl
@[simp] theorem State.decS_cycles (s : State) : s.decS.cycles = s.cycles := rfl
@[simp] theorem State.decS_queue (s : State) : s.decS.queue = s.queue := rfl
@[simp] theorem State.decS_mem (s : State) : s.decS.mem = s.mem := rfl
@[simp] theorem State.decS_bus (s : State) : s.decS.bus = s.bus := rfl
@[simp] theorem State.decS_busDraws (s : State) : s.decS.busDraws = s.busDraws := rfl
@[simp] theorem State.decS_codeDraws (s : State) : s.decS.codeDraws = s.codeDraws := rfl
@[simp] theorem State.decS_irqLines (s : State) : s.decS.irqLines = s.irqLines := rfl
@[simp] theorem State.decS_nmiLines (s : State) : s.decS.nmiLines = s.nmiLines := rfl
@[simp] theorem State.decS_devices (s : State) : s.decS.devices = s.devices := rfl
@[simp] theorem State.decS_intercepts (s : State) : s.decS.intercepts = s.intercepts := rfl
@[simp] theorem State.decS_sched (s : State) : s.decS.sched = s.sched := rfl
@[simp] theorem State.decS_clock (s : State) : s.decS.clock = s.clock := rfl
@[simp] theorem State.decS_cfg (s : State) : s.decS.cfg = s.cfg := rfl

/-! ## State.incS -/

@[simp] theorem State.incS_a (s : State) : s.incS.a = s.a := rfl
@[simp] theorem State.incS_x (s : State) : s.incS.x = s.x := rfl
@[simp] theorem State.incS_y (s : State) : s.incS.y = s.y := rfl
@[simp] theorem State.incS_sp (s : State) : s.incS.sp = s.sp + 1#8 := rfl
@[simp] theorem State.incS_pc (s : State) : s.incS.pc = s.pc := rfl
@[simp] theorem State.incS_p (s : State) : s.incS.p = s.p := rfl
@[simp] theorem State.incS_resetPending (s : State) : s.incS.resetPending = s.resetPending := rfl
@[simp] theorem State.incS_nmiLatch (s : State) : s.incS.nmiLatch = s.nmiLatch := rfl
@[simp] theorem State.incS_nmiPrev (s : State) : s.incS.nmiPrev = s.nmiPrev := rfl
@[simp] theorem State.incS_snapReq (s : State) : s.incS.snapReq = s.snapReq := rfl
@[simp] theorem State.incS_captured (s : State) : s.incS.captured = s.captured := rfl
@[simp] theorem State.incS_servicing (s : State) : s.incS.servicing = s.servicing := rfl
@[simp] theorem State.incS_svcKind (s : State) : s.incS.svcKind = s.svcKind := rfl
@[simp] theorem State.incS_tmp (s : State) : s.incS.tmp = s.tmp := rfl
@[simp] theorem State.incS_halted (s : State) : s.incS.halted = s.halted := rfl
@[simp] theorem State.incS_fault (s : State) : s.incS.fault = s.fault := rfl
@[simp] theorem State.incS_cycles (s : State) : s.incS.cycles = s.cycles := rfl
@[simp] theorem State.incS_queue (s : State) : s.incS.queue = s.queue := rfl
@[simp] theorem State.incS_mem (s : State) : s.incS.mem = s.mem := rfl
@[simp] theorem State.incS_bus (s : State) : s.incS.bus = s.bus := rfl
@[simp] theorem State.incS_busDraws (s : State) : s.incS.busDraws = s.busDraws := rfl
@[simp] theorem State.incS_codeDraws (s : State) : s.incS.codeDraws = s.codeDraws := rfl
@[simp] theorem State.incS_irqLines (s : State) : s.incS.irqLines = s.irqLines := rfl
@[simp] theorem State.incS_nmiLines (s : State) : s.incS.nmiLines = s.nmiLines := rfl
@[simp] theorem State.incS_devices (s : State) : s.incS.devices = s.devices := rfl
@[simp] theorem State.incS_intercepts (s : State) : s.incS.intercepts = s.intercepts := rfl
@[simp] theorem State.incS_sched (s : State) : s.incS.sched = s.sched := rfl
@[simp] theorem State.incS_clock (s : State) : s.incS.clock = s.clock := rfl
@[simp] theorem State.incS_cfg (s : State) : s.incS.cfg = s.cfg := rfl

/-! ## State.jumpHi -/

@[simp] theorem State.jumpHi_a (s : State) (hi : Byte) : (s.jumpHi hi).a = s.a := rfl
@[simp] theorem State.jumpHi_x (s : State) (hi : Byte) : (s.jumpHi hi).x = s.x := rfl
@[simp] theorem State.jumpHi_y (s : State) (hi : Byte) : (s.jumpHi hi).y = s.y := rfl
@[simp] theorem State.jumpHi_sp (s : State) (hi : Byte) : (s.jumpHi hi).sp = s.sp := rfl
@[simp] theorem State.jumpHi_pc (s : State) (hi : Byte) : (s.jumpHi hi).pc = wordOf hi s.tmp.lo := rfl
@[simp] theorem State.jumpHi_p (s : State) (hi : Byte) : (s.jumpHi hi).p = s.p := rfl
@[simp] theorem State.jumpHi_resetPending (s : State) (hi : Byte) :
    (s.jumpHi hi).resetPending = s.resetPending := rfl
@[simp] theorem State.jumpHi_nmiLatch (s : State) (hi : Byte) : (s.jumpHi hi).nmiLatch = s.nmiLatch := rfl
@[simp] theorem State.jumpHi_nmiPrev (s : State) (hi : Byte) : (s.jumpHi hi).nmiPrev = s.nmiPrev := rfl
@[simp] theorem State.jumpHi_snapReq (s : State) (hi : Byte) : (s.jumpHi hi).snapReq = s.snapReq := rfl
@[simp] theorem State.jumpHi_captured (s : State) (hi : Byte) : (s.jumpHi hi).captured = s.captured := rfl
@[simp] theorem State.jumpHi_servicing (s : State) (hi : Byte) : (s.jumpHi hi).servicing = s.servicing := rfl
@[simp] theorem State.jumpHi_svcKind (s : State) (hi : Byte) : (s.jumpHi hi).svcKind = s.svcKind := rfl
@[simp] theorem State.jumpHi_tmp (s : State) (hi : Byte) : (s.jumpHi hi).tmp = { s.tmp with hi := hi } := rfl
@[simp] theorem State.jumpHi_halted (s : State) (hi : Byte) : (s.jumpHi hi).halted = s.halted := rfl
@[simp] theorem State.jumpHi_fault (s : State) (hi : Byte) : (s.jumpHi hi).fault = s.fault := rfl
@[simp] theorem State.jumpHi_cycles (s : State) (hi : Byte) : (s.jumpHi hi).cycles = s.cycles := rfl
@[simp] theorem State.jumpHi_queue (s : State) (hi : Byte) : (s.jumpHi hi).queue = s.queue := rfl
@[simp] theorem State.jumpHi_mem (s : State) (hi : Byte) : (s.jumpHi hi).mem = s.mem := rfl
@[simp] theorem State.jumpHi_bus (s : State) (hi : Byte) : (s.jumpHi hi).bus = s.bus := rfl
@[simp] theorem State.jumpHi_busDraws (s : State) (hi : Byte) : (s.jumpHi hi).busDraws = s.busDraws := rfl
@[simp] theorem State.jumpHi_codeDraws (s : State) (hi : Byte) : (s.jumpHi hi).codeDraws = s.codeDraws := rfl
@[simp] theorem State.jumpHi_irqLines (s : State) (hi : Byte) : (s.jumpHi hi).irqLines = s.irqLines := rfl
@[simp] theorem State.jumpHi_nmiLines (s : State) (hi : Byte) : (s.jumpHi hi).nmiLines = s.nmiLines := rfl
@[simp] theorem State.jumpHi_devices (s : State) (hi : Byte) : (s.jumpHi hi).devices = s.devices := rfl
@[simp] theorem State.jumpHi_intercepts (s : State) (hi : Byte) :
    (s.jumpHi hi).intercepts = s.intercepts := rfl
@[simp] theorem State.jumpHi_sched (s : State) (hi : Byte) : (s.jumpHi hi).sched = s.sched := rfl
@[simp] theorem State.jumpHi_clock (s : State) (hi : Byte) : (s.jumpHi hi).clock = s.clock := rfl
@[simp] theorem State.jumpHi_cfg (s : State) (hi : Byte) : (s.jumpHi hi).cfg = s.cfg := rfl

/-! ## State.setAP -/

@[simp] theorem State.setAP_a (s : State) (r : Byte × Byte) : (s.setAP r).a = r.1 := rfl
@[simp] theorem State.setAP_x (s : State) (r : Byte × Byte) : (s.setAP r).x = s.x := rfl
@[simp] theorem State.setAP_y (s : State) (r : Byte × Byte) : (s.setAP r).y = s.y := rfl
@[simp] theorem State.setAP_sp (s : State) (r : Byte × Byte) : (s.setAP r).sp = s.sp := rfl
@[simp] theorem State.setAP_pc (s : State) (r : Byte × Byte) : (s.setAP r).pc = s.pc := rfl
@[simp] theorem State.setAP_p (s : State) (r : Byte × Byte) : (s.setAP r).p = r.2 := rfl
@[simp] theorem State.setAP_resetPending (s : State) (r : Byte × Byte) :
    (s.setAP r).resetPending = s.resetPending := rfl
@[simp] theorem State.setAP_nmiLatch (s : State) (r : Byte × Byte) : (s.setAP r).nmiLatch = s.nmiLatch := rfl
@[simp] theorem State.setAP_nmiPrev (s : State) (r : Byte × Byte) : (s.setAP r).nmiPrev = s.nmiPrev := rfl
@[simp] theorem State.setAP_snapReq (s : State) (r : Byte × Byte) : (s.setAP r).snapReq = s.snapReq := rfl
@[simp] theorem State.setAP_captured (s : State) (r : Byte × Byte) : (s.setAP r).captured = s.captured := rfl
@[simp] theorem State.setAP_servicing (s : State) (r : Byte × Byte) :
    (s.setAP r).servicing = s.servicing := rfl
@[simp] theorem State.setAP_svcKind (s : State) (r : Byte × Byte) : (s.setAP r).svcKind = s.svcKind := rfl
@[simp] theorem State.setAP_tmp (s : State) (r : Byte × Byte) : (s.setAP r).tmp = s.tmp := rfl
@[simp] theorem State.setAP_halted (s : State) (r : Byte × Byte) : (s.setAP r).halted = s.halted := rfl
@[simp] theorem State.setAP_fault (s : State) (r : Byte × Byte) : (s.setAP r).fault = s.fault := rfl
@[simp] theorem State.setAP_cycles (s : State) (r : Byte × Byte) : (s.setAP r).cycles = s.cycles := rfl
@[simp] theorem State.setAP_queue (s : State) (r : Byte × Byte) : (s.setAP r).queue = s.queue := rfl
@[simp] theorem State.setAP_mem (s : State) (r : Byte × Byte) : (s.setAP r).mem = s.mem := rfl
@[simp] theorem State.setAP_bus (s : State) (r : Byte × Byte) : (s.setAP r).bus = s.bus := rfl
@[simp] theorem State.setAP_busDraws (s : State) (r : Byte × Byte) : (s.setAP r).busDraws = s.busDraws := rfl
@[simp] theorem State.setAP_codeDraws (s : State) (r : Byte × Byte) :
    (s.setAP r).codeDraws = s.codeDraws := rfl
@[simp] theorem State.setAP_irqLines (s : State) (r : Byte × Byte) : (s.setAP r).irqLines = s.irqLines := rfl
@[simp] theorem State.setAP_nmiLines (s : State) (r : Byte × Byte) : (s.setAP r).nmiLines = s.nmiLines := rfl
@[simp] theorem State.setAP_devices (s : State) (r : Byte × Byte) : (s.setAP r).devices = s.devices := rfl
@[simp] theorem State.setAP_intercepts (s : State) (r : Byte × Byte) :
    (s.setAP r).intercepts = s.intercepts := rfl
@[simp] theorem State.setAP_sched (s : State) (r : Byte × Byte) : (s.setAP r).sched = s.sched := rfl
@[simp] theorem State.setAP_clock (s : State) (r : Byte × Byte) : (s.setAP r).clock = s.clock := rfl
@[simp] theorem State.setAP_cfg (s : State) (r : Byte × Byte) : (s.setAP r).cfg = s.cfg := rfl

/-! ## State.setMem -/

@[simp] theorem State.setMem_a (s : State) (addr : Word) (v : Byte) : (s.setMem addr v).a = s.a := rfl
@[simp] theorem State.setMem_x (s : State) (addr : Word) (v : Byte) : (s.setMem addr v).x = s.x := rfl
@[simp] theorem State.setMem_y (s : State) (addr : Word) (v : Byte) : (s.setMem addr v).y = s.y := rfl
@[simp] theorem State.setMem_sp (s : State) (addr : Word) (v : Byte) : (s.setMem addr v).sp = s.sp := rfl
@[simp] theorem State.setMem_pc (s : State) (addr : Word) (v : Byte) : (s.setMem addr v).pc = s.pc := rfl
@[simp] theorem State.setMem_p (s : State) (addr : Word) (v : Byte) : (s.setMem addr v).p = s.p := rfl
@[simp] theorem State.setMem_resetPending (s : State) (addr : Word) (v : Byte) :
    (s.setMem addr v).resetPending = s.resetPending := rfl
@[simp] theorem State.setMem_nmiLatch (s : State) (addr : Word) (v : Byte) :
    (s.setMem addr v).nmiLatch = s.nmiLatch := rfl
@[simp] theorem State.setMem_nmiPrev (s : State) (addr : Word) (v : Byte) :
    (s.setMem addr v).nmiPrev = s.nmiPrev := rfl
@[simp] theorem State.setMem_snapReq (s : State) (addr : Word) (v : Byte) :
    (s.setMem addr v).snapReq = s.snapReq := rfl
@[simp] theorem State.setMem_captured (s : State) (addr : Word) (v : Byte) :
    (s.setMem addr v).captured = s.captured := rfl
@[simp] theorem State.setMem_servicing (s : State) (addr : Word) (v : Byte) :
    (s.setMem addr v).servicing = s.servicing := rfl
@[simp] theorem State.setMem_svcKind (s : State) (addr : Word) (v : Byte) :
    (s.setMem addr v).svcKind = s.svcKind := rfl
@[simp] theorem State.setMem_tmp (s : State) (addr : Word) (v : Byte) : (s.setMem addr v).tmp = s.tmp := rfl
@[simp] theorem State.setMem_halted (s : State) (addr : Word) (v : Byte) :
    (s.setMem addr v).halted = s.halted := rfl
@[simp] theorem State.setMem_fault (s : State) (addr : Word) (v : Byte) :
    (s.setMem addr v).fault = s.fault := rfl
@[simp] theorem State.setMem_cycles (s : State) (addr : Word) (v : Byte) :
    (s.setMem addr v).cycles = s.cycles := rfl
@[simp] theorem State.setMem_queue (s : State) (addr : Word) (v : Byte) :
    (s.setMem addr v).queue = s.queue := rfl
@[simp] theorem State.setMem_mem (s : State) (addr : Word) (v : Byte) :
    (s.setMem addr v).mem = s.mem.write addr.toNat v := rfl
@[simp] theorem State.setMem_bus (s : State) (addr : Word) (v : Byte) : (s.setMem addr v).bus = s.bus := rfl
@[simp] theorem State.setMem_busDraws (s : State) (addr : Word) (v : Byte) :
    (s.setMem addr v).busDraws = s.busDraws := rfl
@[simp] theorem State.setMem_codeDraws (s : State) (addr : Word) (v : Byte) :
    (s.setMem addr v).codeDraws = s.codeDraws := rfl
@[simp] theorem State.setMem_irqLines (s : State) (addr : Word) (v : Byte) :
    (s.setMem addr v).irqLines = s.irqLines := rfl
@[simp] theorem State.setMem_nmiLines (s : State) (addr : Word) (v : Byte) :
    (s.setMem addr v).nmiLines = s.nmiLines := rfl
@[simp] theorem State.setMem_devices (s : State) (addr : Word) (v : Byte) :
    (s.setMem addr v).devices = s.devices := rfl
@[simp] theorem State.setMem_intercepts (s : State) (addr : Word) (v : Byte) :
    (s.setMem addr v).intercepts = s.intercepts := rfl
@[simp] theorem State.setMem_sched (s : State) (addr : Word) (v : Byte) :
    (s.setMem addr v).sched = s.sched := rfl
@[simp] theorem State.setMem_clock (s : State) (addr : Word) (v : Byte) :
    (s.setMem addr v).clock = s.clock := rfl
@[simp] theorem State.setMem_cfg (s : State) (addr : Word) (v : Byte) : (s.setMem addr v).cfg = s.cfg := rfl

/-! ## State.logBus -/

@[simp] theorem State.logBus_a (s : State) (c : BusCycle) : (s.logBus c).a = s.a := rfl
@[simp] theorem State.logBus_x (s : State) (c : BusCycle) : (s.logBus c).x = s.x := rfl
@[simp] theorem State.logBus_y (s : State) (c : BusCycle) : (s.logBus c).y = s.y := rfl
@[simp] theorem State.logBus_sp (s : State) (c : BusCycle) : (s.logBus c).sp = s.sp := rfl
@[simp] theorem State.logBus_pc (s : State) (c : BusCycle) : (s.logBus c).pc = s.pc := rfl
@[simp] theorem State.logBus_p (s : State) (c : BusCycle) : (s.logBus c).p = s.p := rfl
@[simp] theorem State.logBus_resetPending (s : State) (c : BusCycle) :
    (s.logBus c).resetPending = s.resetPending := rfl
@[simp] theorem State.logBus_nmiLatch (s : State) (c : BusCycle) : (s.logBus c).nmiLatch = s.nmiLatch := rfl
@[simp] theorem State.logBus_nmiPrev (s : State) (c : BusCycle) : (s.logBus c).nmiPrev = s.nmiPrev := rfl
@[simp] theorem State.logBus_snapReq (s : State) (c : BusCycle) : (s.logBus c).snapReq = s.snapReq := rfl
@[simp] theorem State.logBus_captured (s : State) (c : BusCycle) : (s.logBus c).captured = s.captured := rfl
@[simp] theorem State.logBus_servicing (s : State) (c : BusCycle) :
    (s.logBus c).servicing = s.servicing := rfl
@[simp] theorem State.logBus_svcKind (s : State) (c : BusCycle) : (s.logBus c).svcKind = s.svcKind := rfl
@[simp] theorem State.logBus_tmp (s : State) (c : BusCycle) : (s.logBus c).tmp = s.tmp := rfl
@[simp] theorem State.logBus_halted (s : State) (c : BusCycle) : (s.logBus c).halted = s.halted := rfl
@[simp] theorem State.logBus_fault (s : State) (c : BusCycle) : (s.logBus c).fault = s.fault := rfl
@[simp] theorem State.logBus_cycles (s : State) (c : BusCycle) : (s.logBus c).cycles = s.cycles := rfl
@[simp] theorem State.logBus_queue (s : State) (c : BusCycle) : (s.logBus c).queue = s.queue := rfl
@[simp] theorem State.logBus_mem (s : State) (c : BusCycle) : (s.logBus c).mem = s.mem := rfl
@[simp] theorem State.logBus_bus (s : State) (c : BusCycle) : (s.logBus c).bus = s.bus ++ [c] := rfl
@[simp] theorem State.logBus_busDraws (s : State) (c : BusCycle) : (s.logBus c).busDraws = s.busDraws := rfl
@[simp] theorem State.logBus_codeDraws (s : State) (c : BusCycle) :
    (s.logBus c).codeDraws = s.codeDraws := rfl
@[simp] theorem State.logBus_irqLines (s : State) (c : BusCycle) : (s.logBus c).irqLines = s.irqLines := rfl
@[simp] theorem State.logBus_nmiLines (s : State) (c : BusCycle) : (s.logBus c).nmiLines = s.nmiLines := rfl
@[simp] theorem State.logBus_devices (s : State) (c : BusCycle) : (s.logBus c).devices = s.devices := rfl
@[simp] theorem State.logBus_intercepts (s : State) (c : BusCycle) :
    (s.logBus c).intercepts = s.intercepts := rfl
@[simp] theorem State.logBus_sched (s : State) (c : BusCycle) : (s.logBus c).sched = s.sched := rfl
@[simp] theorem State.logBus_clock (s : State) (c : BusCycle) : (s.logBus c).clock = s.clock := rfl
@[simp] theorem State.logBus_cfg (s : State) (c : BusCycle) : (s.logBus c).cfg = s.cfg := rfl

/-! ## State.drawn -/

@[simp] theorem State.drawn_a (s : State) : s.drawn.a = s.a := rfl
@[simp] theorem State.drawn_x (s : State) : s.drawn.x = s.x := rfl
@[simp] theorem State.drawn_y (s : State) : s.drawn.y = s.y := rfl
@[simp] theorem State.drawn_sp (s : State) : s.drawn.sp = s.sp := rfl
@[simp] theorem State.drawn_pc (s : State) : s.drawn.pc = s.pc := rfl
@[simp] theorem State.drawn_p (s : State) : s.drawn.p = s.p := rfl
@[simp] theorem State.drawn_resetPending (s : State) : s.drawn.resetPending = s.resetPending := rfl
@[simp] theorem State.drawn_nmiLatch (s : State) : s.drawn.nmiLatch = s.nmiLatch := rfl
@[simp] theorem State.drawn_nmiPrev (s : State) : s.drawn.nmiPrev = s.nmiPrev := rfl
@[simp] theorem State.drawn_snapReq (s : State) : s.drawn.snapReq = s.snapReq := rfl
@[simp] theorem State.drawn_captured (s : State) : s.drawn.captured = s.captured := rfl
@[simp] theorem State.drawn_servicing (s : State) : s.drawn.servicing = s.servicing := rfl
@[simp] theorem State.drawn_svcKind (s : State) : s.drawn.svcKind = s.svcKind := rfl
@[simp] theorem State.drawn_tmp (s : State) : s.drawn.tmp = s.tmp := rfl
@[simp] theorem State.drawn_halted (s : State) : s.drawn.halted = s.halted := rfl
@[simp] theorem State.drawn_fault (s : State) : s.drawn.fault = s.fault := rfl
@[simp] theorem State.drawn_cycles (s : State) : s.drawn.cycles = s.cycles := rfl
@[simp] theorem State.drawn_queue (s : State) : s.drawn.queue = s.queue := rfl
@[simp] theorem State.drawn_mem (s : State) : s.drawn.mem = s.mem := rfl
@[simp] theorem State.drawn_bus (s : State) : s.drawn.bus = s.bus := rfl
@[simp] theorem State.drawn_busDraws (s : State) : s.drawn.busDraws = s.busDraws := rfl
@[simp] theorem State.drawn_codeDraws (s : State) : s.drawn.codeDraws = s.codeDraws + 1 := rfl
@[simp] theorem State.drawn_irqLines (s : State) : s.drawn.irqLines = s.irqLines := rfl
@[simp] theorem State.drawn_nmiLines (s : State) : s.drawn.nmiLines = s.nmiLines := rfl
@[simp] theorem State.drawn_devices (s : State) : s.drawn.devices = s.devices := rfl
@[simp] theorem State.drawn_intercepts (s : State) : s.drawn.intercepts = s.intercepts := rfl
@[simp] theorem State.drawn_sched (s : State) : s.drawn.sched = s.sched := rfl
@[simp] theorem State.drawn_clock (s : State) : s.drawn.clock = s.clock := rfl
@[simp] theorem State.drawn_cfg (s : State) : s.drawn.cfg = s.cfg := rfl

/-! ## State.halt -/

@[simp] theorem State.halt_a (s : State) (c : HaltCode) : (s.halt c).a = s.a := rfl
@[simp] theorem State.halt_x (s : State) (c : HaltCode) : (s.halt c).x = s.x := rfl
@[simp] theorem State.halt_y (s : State) (c : HaltCode) : (s.halt c).y = s.y := rfl
@[simp] theorem State.halt_sp (s : State) (c : HaltCode) : (s.halt c).sp = s.sp := rfl
@[simp] theorem State.halt_pc (s : State) (c : HaltCode) : (s.halt c).pc = s.pc := rfl
@[simp] theorem State.halt_p (s : State) (c : HaltCode) : (s.halt c).p = s.p := rfl
@[simp] theorem State.halt_resetPending (s : State) (c : HaltCode) :
    (s.halt c).resetPending = s.resetPending := rfl
@[simp] theorem State.halt_nmiLatch (s : State) (c : HaltCode) : (s.halt c).nmiLatch = s.nmiLatch := rfl
@[simp] theorem State.halt_nmiPrev (s : State) (c : HaltCode) : (s.halt c).nmiPrev = s.nmiPrev := rfl
@[simp] theorem State.halt_snapReq (s : State) (c : HaltCode) : (s.halt c).snapReq = s.snapReq := rfl
@[simp] theorem State.halt_captured (s : State) (c : HaltCode) : (s.halt c).captured = s.captured := rfl
@[simp] theorem State.halt_servicing (s : State) (c : HaltCode) : (s.halt c).servicing = s.servicing := rfl
@[simp] theorem State.halt_svcKind (s : State) (c : HaltCode) : (s.halt c).svcKind = s.svcKind := rfl
@[simp] theorem State.halt_tmp (s : State) (c : HaltCode) : (s.halt c).tmp = s.tmp := rfl
@[simp] theorem State.halt_halted (s : State) (c : HaltCode) : (s.halt c).halted = some c := rfl
@[simp] theorem State.halt_fault (s : State) (c : HaltCode) : (s.halt c).fault = s.fault := rfl
@[simp] theorem State.halt_cycles (s : State) (c : HaltCode) : (s.halt c).cycles = s.cycles := rfl
@[simp] theorem State.halt_queue (s : State) (c : HaltCode) : (s.halt c).queue = s.queue := rfl
@[simp] theorem State.halt_mem (s : State) (c : HaltCode) : (s.halt c).mem = s.mem := rfl
@[simp] theorem State.halt_bus (s : State) (c : HaltCode) : (s.halt c).bus = s.bus := rfl
@[simp] theorem State.halt_busDraws (s : State) (c : HaltCode) : (s.halt c).busDraws = s.busDraws := rfl
@[simp] theorem State.halt_codeDraws (s : State) (c : HaltCode) : (s.halt c).codeDraws = s.codeDraws := rfl
@[simp] theorem State.halt_irqLines (s : State) (c : HaltCode) : (s.halt c).irqLines = s.irqLines := rfl
@[simp] theorem State.halt_nmiLines (s : State) (c : HaltCode) : (s.halt c).nmiLines = s.nmiLines := rfl
@[simp] theorem State.halt_devices (s : State) (c : HaltCode) : (s.halt c).devices = s.devices := rfl
@[simp] theorem State.halt_intercepts (s : State) (c : HaltCode) : (s.halt c).intercepts = s.intercepts := rfl
@[simp] theorem State.halt_sched (s : State) (c : HaltCode) : (s.halt c).sched = s.sched := rfl
@[simp] theorem State.halt_clock (s : State) (c : HaltCode) : (s.halt c).clock = s.clock := rfl
@[simp] theorem State.halt_cfg (s : State) (c : HaltCode) : (s.halt c).cfg = s.cfg := rfl

/-! ## State.restoreImage -/

@[simp] theorem State.restoreImage_a (s : State) (i : Image) : (s.restoreImage i).a = i.a := rfl
@[simp] theorem State.restoreImage_x (s : State) (i : Image) : (s.restoreImage i).x = i.x := rfl
@[simp] theorem State.restoreImage_y (s : State) (i : Image) : (s.restoreImage i).y = i.y := rfl
@[simp] theorem State.restoreImage_sp (s : State) (i : Image) : (s.restoreImage i).sp = i.s := rfl
@[simp] theorem State.restoreImage_pc (s : State) (i : Image) : (s.restoreImage i).pc = i.pc := rfl
@[simp] theorem State.restoreImage_p (s : State) (i : Image) : (s.restoreImage i).p = i.p := rfl
@[simp] theorem State.restoreImage_resetPending (s : State) (i : Image) :
    (s.restoreImage i).resetPending = s.resetPending := rfl
@[simp] theorem State.restoreImage_nmiLatch (s : State) (i : Image) :
    (s.restoreImage i).nmiLatch = s.nmiLatch := rfl
@[simp] theorem State.restoreImage_nmiPrev (s : State) (i : Image) :
    (s.restoreImage i).nmiPrev = s.nmiPrev := rfl
@[simp] theorem State.restoreImage_snapReq (s : State) (i : Image) :
    (s.restoreImage i).snapReq = s.snapReq := rfl
@[simp] theorem State.restoreImage_captured (s : State) (i : Image) :
    (s.restoreImage i).captured = s.captured := rfl
@[simp] theorem State.restoreImage_servicing (s : State) (i : Image) :
    (s.restoreImage i).servicing = s.servicing := rfl
@[simp] theorem State.restoreImage_svcKind (s : State) (i : Image) :
    (s.restoreImage i).svcKind = s.svcKind := rfl
@[simp] theorem State.restoreImage_tmp (s : State) (i : Image) : (s.restoreImage i).tmp = s.tmp := rfl
@[simp] theorem State.restoreImage_halted (s : State) (i : Image) :
    (s.restoreImage i).halted = s.halted := rfl
@[simp] theorem State.restoreImage_fault (s : State) (i : Image) : (s.restoreImage i).fault = s.fault := rfl
@[simp] theorem State.restoreImage_cycles (s : State) (i : Image) :
    (s.restoreImage i).cycles = s.cycles := rfl
@[simp] theorem State.restoreImage_queue (s : State) (i : Image) : (s.restoreImage i).queue = s.queue := rfl
@[simp] theorem State.restoreImage_mem (s : State) (i : Image) : (s.restoreImage i).mem = s.mem := rfl
@[simp] theorem State.restoreImage_bus (s : State) (i : Image) : (s.restoreImage i).bus = s.bus := rfl
@[simp] theorem State.restoreImage_busDraws (s : State) (i : Image) :
    (s.restoreImage i).busDraws = s.busDraws := rfl
@[simp] theorem State.restoreImage_codeDraws (s : State) (i : Image) :
    (s.restoreImage i).codeDraws = s.codeDraws := rfl
@[simp] theorem State.restoreImage_irqLines (s : State) (i : Image) :
    (s.restoreImage i).irqLines = s.irqLines := rfl
@[simp] theorem State.restoreImage_nmiLines (s : State) (i : Image) :
    (s.restoreImage i).nmiLines = s.nmiLines := rfl
@[simp] theorem State.restoreImage_devices (s : State) (i : Image) :
    (s.restoreImage i).devices = s.devices := rfl
@[simp] theorem State.restoreImage_intercepts (s : State) (i : Image) :
    (s.restoreImage i).intercepts = s.intercepts := rfl
@[simp] theorem State.restoreImage_sched (s : State) (i : Image) : (s.restoreImage i).sched = s.sched := rfl
@[simp] theorem State.restoreImage_clock (s : State) (i : Image) : (s.restoreImage i).clock = s.clock := rfl
@[simp] theorem State.restoreImage_cfg (s : State) (i : Image) : (s.restoreImage i).cfg = s.cfg := rfl

end Sys2Proof.Machine
end

