-- ==== Sys2Proof/Laws/Tick.lean ====
section
/-!
SUPPORT. What a tick and a step can do in any environment: `KeepsPlatform` says what neither ever writes, and a
step is a number of engine ticks.
-/

namespace Sys2Proof.Machine

/-- `t` has the configuration, devices, intercepts and clock of `s`, as many cycles, and memory in canonical
form if `s` has. -/
structure KeepsPlatform (s t : State) : Prop where
  cfg : t.cfg = s.cfg
  devices : t.devices = s.devices
  intercepts : t.intercepts = s.intercepts
  clock : t.clock = s.clock
  cycles : t.cycles = s.cycles
  memWf : s.mem.wf → t.mem.wf

theorem KeepsPlatform.refl (s : State) : KeepsPlatform s s := ⟨rfl, rfl, rfl, rfl, rfl, id⟩

theorem KeepsPlatform.trans {s t u : State} (h : KeepsPlatform s t) (k : KeepsPlatform t u) :
    KeepsPlatform s u :=
  ⟨k.cfg.trans h.cfg, k.devices.trans h.devices, k.intercepts.trans h.intercepts, k.clock.trans h.clock,
    k.cycles.trans h.cycles, fun hs => k.memWf (h.memWf hs)⟩

theorem KeepsEngine.platform {s t : State} (h : KeepsEngine s t) : KeepsPlatform s t :=
  ⟨h.cfg, h.devices, h.intercepts, h.clock, h.cycles, h.memWf⟩

/-! ## A cycle (20 R72) -/

theorem MicroOp.effect_platform (op : MicroOp) (v : Byte) (s : State) : KeepsPlatform s (op.effect v s) := by
  rw [op.effect_frame v s]
  exact ⟨rfl, rfl, rfl, rfl, rfl, id⟩

/-- A cycle whose writes keep the platform keeps it. -/
theorem runCycle_platform {s : State} {popped : List MicroOp} {acc : Access} {eff : Byte → State → State}
    {follow : State → List MicroOp} (h : ∀ v t, KeepsPlatform t (eff v t)) :
    KeepsPlatform s (runCycle s popped acc eff follow) := by
  have hp : KeepsPlatform s { s with queue := popped } := ⟨rfl, rfl, rfl, rfl, rfl, id⟩
  obtain ⟨f, -, hr⟩ | ⟨v, t, ha, ⟨-, hr⟩ | ⟨-, hr, -⟩ | ⟨-, hr⟩⟩ := runCycle_cases s popped acc eff follow
  · rw [hr]; exact (s.raise_keeps f).platform
  · rw [hr]
    exact (hp.trans (busAccess_keeps ha).platform).trans ⟨rfl, rfl, rfl, rfl, rfl, id⟩
  · rw [hr]; exact (s.raise_keeps _).platform
  · rw [hr]
    exact ((hp.trans (busAccess_keeps ha).platform).trans (h v t)).trans ⟨rfl, rfl, rfl, rfl, rfl, id⟩

theorem cpuMicroOp_platform (s : State) : KeepsPlatform s (cpuMicroOp s) := by
  unfold cpuMicroOp
  split
  · exact runCycle_platform fun v t => MicroOp.effect_platform _ v t
  · exact (s.raise_keeps _).platform

/-! ## The quiescent point (40 R132) -/

theorem performSnapshot_platform (s : State) : KeepsPlatform s (performSnapshot s) := by
  unfold performSnapshot
  split <;> exact ⟨rfl, rfl, rfl, rfl, rfl, id⟩

theorem sampleInterrupts_platform (s : State) : KeepsPlatform s (sampleInterrupts s) :=
  ⟨rfl, rfl, rfl, rfl, rfl, id⟩

theorem takeRequest_platform (kind : ServiceKind) (s : State) : KeepsPlatform s (takeRequest kind s) := by
  cases kind <;> exact ⟨rfl, rfl, rfl, rfl, rfl, id⟩

theorem beginService_platform (kind : ServiceKind) (s : State) : KeepsPlatform s (beginService kind s) := by
  unfold beginService
  exact runCycle_platform fun v t => ⟨rfl, rfl, rfl, rfl, rfl, id⟩

/-- What handler code leaves alone: the platform, the queue and the engine's control state (70 R421). -/
structure KeepsControl (s t : State) : Prop where
  platform : KeepsPlatform s t
  queue : t.queue = s.queue
  servicing : t.servicing = s.servicing
  halted : t.halted = s.halted
  captured : t.captured = s.captured

theorem KeepsControl.refl (s : State) : KeepsControl s s := ⟨.refl s, rfl, rfl, rfl, rfl⟩

theorem KeepsControl.trans {s t u : State} (h : KeepsControl s t) (k : KeepsControl t u) :
    KeepsControl s u :=
  ⟨h.platform.trans k.platform, k.queue.trans h.queue, k.servicing.trans h.servicing,
    k.halted.trans h.halted, k.captured.trans h.captured⟩

theorem KeepsEngine.control {s t : State} (h : KeepsEngine s t) : KeepsControl s t :=
  ⟨h.platform, h.queue, h.servicing, h.halted, h.captured⟩

/-- A relation that holds across each primitive effect of handler code (20 R84, 70 R420). Everything a handler can
do is a sequence of these. -/
structure HandlerClosed (R : State → State → Prop) : Prop extends ActionClosed R where
  setCpuReg : ∀ s r v, R s (s.setCpuReg r v)
  snapshot : ∀ s request, R s { s with snapReq := some request }

/-- Everything handler code can do, given what its free parts can do. -/
theorem HandlerClosed.runCode {R : State → State → Prop} (hR : HandlerClosed R)
    {onFree : Nat → State → State} (hfree : ∀ k s, R s (onFree k s)) (c : HandlerCode) (s : State) :
    R s (c.run onFree s) := by
  induction c generalizing s with
  | skip => exact hR.refl s
  | seq f g hf hg => exact hR.trans (hf s) (hg _)
  | ifElse t f g hf hg =>
    rw [HandlerCode.run]
    split
    · exact hf s
    · exact hg s
  | act a => exact hR.run hR.runFreeAction {} a s
  | set r v => exact hR.unlessFaulted (hR.setCpuReg s r _)
  | poke hi lo v => exact hR.unlessFaulted (hR.setMem s _ _)
  | snapshot r => exact hR.unlessFaulted (hR.snapshot s r)
  | free k => exact hfree k s

/-- Everything a run of a handler can do (20 R84). -/
theorem HandlerClosed.runHandler {R : State → State → Prop} (hR : HandlerClosed R) (h : Handler) (s : State) :
    R s (runHandler h s).1 :=
  hR.trans (hR.runCode (fun _ t => hR.runCode (fun _ u => hR.refl u) _ t) h.code s) (hR.drawn _)

/-- A handler touches neither the platform nor the queue nor the engine's control state (70 R421). -/
theorem KeepsControl.closed : HandlerClosed KeepsControl where
  refl := .refl
  trans := .trans
  schedule s h d := (s.schedule_keeps h d).control
  unschedule s h := (s.unschedule_keeps h).control
  newTask s a := (s.newTask_keeps a).control
  requestNmi s := ⟨⟨rfl, rfl, rfl, rfl, rfl, id⟩, rfl, rfl, rfl, rfl⟩
  requestReset s := ⟨⟨rfl, rfl, rfl, rfl, rfl, id⟩, rfl, rfl, rfl, rfl⟩
  irqLines s l := ⟨⟨rfl, rfl, rfl, rfl, rfl, id⟩, rfl, rfl, rfl, rfl⟩
  nmiLines s l := ⟨⟨rfl, rfl, rfl, rfl, rfl, id⟩, rfl, rfl, rfl, rfl⟩
  setMem s addr v := (s.setMem_keeps addr v).control
  drawn s := s.drawn_keeps.control
  setCpuReg s r v := by cases r <;> exact ⟨⟨rfl, rfl, rfl, rfl, rfl, id⟩, rfl, rfl, rfl, rfl⟩
  snapshot s r := ⟨⟨rfl, rfl, rfl, rfl, rfl, id⟩, rfl, rfl, rfl, rfl⟩

theorem processIntercepts_control (s : State) : KeepsControl s (processIntercepts s).1 := by
  unfold processIntercepts
  split
  · exact .refl s
  · exact KeepsControl.closed.runHandler _ s

/-- The state a CPU step leaves, with a fetched instruction's cycles not yet pushed. -/
def CpuStep.state : CpuStep → State
  | .ran s => s
  | .fetched _ s => s

theorem fetchDecode_platform (s : State) : KeepsPlatform s (fetchDecode s).state := by
  unfold fetchDecode
  split
  · exact (s.raise_keeps _).platform
  · next v t h =>
    have hk := (busRead_keeps h).platform
    have hr : KeepsPlatform t (opcodeRead v t) := ⟨rfl, rfl, rfl, rfl, rfl, id⟩
    split
    · exact hk
    · split
      · exact (hk.trans hr).trans (State.raise_keeps _ _).platform
      · exact hk.trans hr

theorem interceptedFetch_platform (s : State) : KeepsPlatform s (interceptedFetch s).state := by
  have hp : KeepsPlatform s (processIntercepts s).1 := (processIntercepts_control s).platform
  unfold interceptedFetch
  dsimp only
  split
  · exact hp.trans (fetchDecode_platform _)
  · exact hp

theorem quiescentStep_platform (s : State) : KeepsPlatform s (quiescentStep s).state := by
  have hb : KeepsPlatform s { s with bus := [] } := ⟨rfl, rfl, rfl, rfl, rfl, id⟩
  have hs : KeepsPlatform s (sampleInterrupts (performSnapshot { s with bus := [] })) :=
    (hb.trans (performSnapshot_platform _)).trans (sampleInterrupts_platform _)
  unfold quiescentStep
  dsimp only
  split
  · exact (hs.trans (takeRequest_platform _ _)).trans (beginService_platform _ _)
  · exact hs.trans (interceptedFetch_platform _)

theorem cpuStep_platform (s : State) : KeepsPlatform s (cpuStep s).state := by
  unfold cpuStep
  split
  · exact quiescentStep_platform s
  · exact cpuMicroOp_platform s

theorem pushAll_platform (ops : List MicroOp) (s : State) : KeepsPlatform s (pushAll ops s) := by
  unfold pushAll
  split
  · next t h => rw [enqueue_some h]; exact ⟨rfl, rfl, rfl, rfl, rfl, id⟩
  · exact (s.raise_keeps _).platform

theorem cpuTick_platform (s : State) : KeepsPlatform s (cpuTick s) := by
  have h := cpuStep_platform s
  unfold cpuTick
  split
  · next t hc => rwa [hc] at h
  · next i t hc =>
    rw [hc] at h
    exact h.trans (pushAll_platform _ _)

/-! ## The tick (40 R131) -/

/-- A tick of a running engine around a CPU step that keeps the platform keeps it and counts one cycle. -/
theorem tickWith_platform {cpu : State → State} (h : ∀ s, KeepsPlatform s (cpu s)) {s : State}
    (hs : s.stopped = false) :
    (tickWith cpu s).cycles = s.cycles + 1 ∧ KeepsPlatform s { tickWith cpu s with cycles := s.cycles } := by
  have hk : KeepsPlatform s (if (startTick s).fault.isSome then startTick s else cpu (startTick s)) := by
    split
    · exact (startTick_keeps s).platform
    · exact (startTick_keeps s).platform.trans (h _)
  unfold tickWith
  rw [if_neg (by simp [hs])]
  obtain ⟨hc, he⟩ := endTick_keeps (if (startTick s).fault.isSome then startTick s else cpu (startTick s))
  refine ⟨hc.trans (by rw [hk.cycles]), ?_⟩
  have := hk.trans he.platform
  exact ⟨this.cfg, this.devices, this.intercepts, this.clock, rfl, this.memWf⟩

theorem tickWith_of_stopped {cpu : State → State} {s : State} (hs : s.stopped = true) :
    tickWith cpu s = s := by
  simp [tickWith, hs]

/-- A tick of an engine whose configuration can be built. -/
theorem engineTick_of_wellFormed {s : State} (h : s.cfg.wellFormed) : engineTick s = tickWith cpuTick s := by
  simp [engineTick, h]

/-- A configuration that cannot be built has no tick (30 R109). -/
theorem engineTick_of_illFormed {s : State} (h : s.cfg.wellFormed = false) : engineTick s = s := by
  simp [engineTick, h]

theorem microTick_cfg (s : State) : (microTick s).cfg = s.cfg := by
  cases hs : s.stopped with
  | true => exact congrArg State.cfg (tickWith_of_stopped hs)
  | false => exact (tickWith_platform cpuMicroOp_platform hs).2.cfg

/-! ## A step is a number of ticks (40 R130) -/

/-- Where something is queued, the tick of the drain is the engine's. -/
theorem microTick_eq_engineTick {s : State} (hw : s.cfg.wellFormed) (h : s.queue ≠ []) :
    microTick s = engineTick s := by
  rw [engineTick_of_wellFormed hw]
  unfold microTick tickWith
  split
  · rfl
  · split
    · rfl
    · congr 1
      unfold cpuTick cpuStep
      rw [if_neg (by simp [State.quiescent, (startTick_keeps s).queue, h])]

theorem drain_eq_ticks (n : Nat) {s : State} (hw : s.cfg.wellFormed) :
    ∃ k, drain n s = engineTick^[k] s := by
  induction n generalizing s with
  | zero => exact ⟨0, rfl⟩
  | succ n ih =>
    rw [drain]
    split
    · exact ⟨0, rfl⟩
    · next h =>
      obtain ⟨k, hk⟩ := ih (s := microTick s) (by rwa [microTick_cfg])
      refine ⟨k + 1, ?_⟩
      rw [hk, Function.iterate_succ_apply, microTick_eq_engineTick hw]
      intro hq
      simp [hq] at h

end Sys2Proof.Machine
end

