-- ==== Sys2Proof/Machine/Assembly.lean ====
section
/-!
DEFINITION. The tooling of 30 R113 to R115: the assembler syntax of an instruction, that is, its disassembly, the
branch offset of a target address, and the assembler. No rule of the machine depends on any of it.
-/

namespace Sys2Proof.Machine

/-! ## Numbers in text (30 R113, R115) -/

/-- An upper-case hex digit. -/
def hexDigit (n : Nat) : Char := if n < 10 then Char.ofNat (48 + n) else Char.ofNat (55 + n)

/-- The `k` lowest hex digits of a number, highest first. -/
def hexDigits : Nat → Nat → List Char
  | 0, _ => []
  | k + 1, v => hexDigits k (v / 16) ++ [hexDigit (v % 16)]

/-- A number with `$` and `k` hex digits. -/
def dollar (k v : Nat) : String := "$" ++ String.ofList (hexDigits k v)

/-- The value of an upper-case hex digit. -/
def hexValue (c : Char) : Option Nat :=
  if 48 ≤ c.toNat ∧ c.toNat ≤ 57 then some (c.toNat - 48)
  else if 65 ≤ c.toNat ∧ c.toNat ≤ 70 then some (c.toNat - 55)
  else none

/-- The numbers that a text writes with `$`, in order; `cur` is the number being read. -/
def numbersIn : List Char → Option Nat → List Nat
  | [], cur => cur.toList
  | c :: cs, cur =>
    if c = '$' then cur.toList ++ numbersIn cs (some 0)
    else
      match cur, hexValue c with
      | some n, some d => numbersIn cs (some (16 * n + d))
      | some n, none => n :: numbersIn cs none
      | none, _ => numbersIn cs none

/-! ## Branch targets (30 R102, R113) -/

/-- The target address of a branch at an address with an offset byte. -/
def branchTargetOf (address : Word) (offset : Nat) : Word :=
  address + 2#16 + signExtend16 (BitVec.ofNat 8 offset)

/-- The offset byte `target - (address + 2)`, where it lies in -128..127. -/
def branchOffset (address : Word) (target : Nat) : Option Nat :=
  let d := (BitVec.ofNat 16 target - (address + 2#16)).toInt
  if target < 65536 ∧ -128 ≤ d ∧ d ≤ 127 then some (d % 256).toNat else none

/-! ## Disassembly and assembly -/

/-- The operand as the syntax column of 30 R101 writes it, for an instruction at an address. -/
def operandText (m : Sys2Proof.Mode) (operand : Nat) (address : Word) : String :=
  match m with
  | .implied => ""
  | .accumulator => " A"
  | .immediate => " #" ++ dollar 2 operand
  | .zeroPage => " " ++ dollar 2 operand
  | .zeroPageX => " " ++ dollar 2 operand ++ ",X"
  | .zeroPageY => " " ++ dollar 2 operand ++ ",Y"
  | .absolute => " " ++ dollar 4 operand
  | .absoluteX => " " ++ dollar 4 operand ++ ",X"
  | .absoluteY => " " ++ dollar 4 operand ++ ",Y"
  | .indirect => " (" ++ dollar 4 operand ++ ")"
  | .indirectX => " (" ++ dollar 2 operand ++ ",X)"
  | .indirectY => " (" ++ dollar 2 operand ++ "),Y"
  | .relative => " " ++ dollar 4 (branchTargetOf address operand).toNat
  | .immediate2 => " #" ++ dollar 2 operand ++ ",#" ++ dollar 2 (operand / 256)

/-- The disassembly of an instruction with its operand at an address (30 R115). -/
def disassemble (i : Instr) (operand : Nat) (address : Word) : String :=
  i.mnemonic.text ++ operandText i.mode operand address

/-- The operand that the numbers in an instruction's text spell under a mode. -/
def operandOfNumbers (m : Sys2Proof.Mode) (numbers : List Nat) (address : Word) : Option Nat :=
  match m, numbers with
  | .relative, [target] => branchOffset address target
  | .immediate2, [mask, expect] => some (mask + 256 * expect)
  | _, [n] => some n
  | _, [] => some 0
  | _, _ => none

/-- The instruction and operand whose assembler syntax a text is, for an instruction at an address (30 R113; it
reads what `disassemble` writes, log 19). -/
def parse (cfg : Config) (text : String) (address : Word) : Option (Instr × Nat) :=
  let numbers := numbersIn text.toList none
  (registeredInstrs cfg).findSome? fun i =>
    match operandOfNumbers i.mode numbers address with
    | none => none
    | some operand => if disassemble i operand address = text then some (i, operand) else none

/-- The bytes that an instruction's text assembles to at an address (30 R113); none where the text is the syntax
of no registered instruction or its branch target is out of range. -/
def assemble (cfg : Config) (text : String) (address : Word) : Option (List Byte) :=
  match parse cfg text address with
  | none => none
  | some (i, operand) => (encode cfg i.mnemonic i.mode operand).toOption

end Sys2Proof.Machine
end

