-- ==== Sys2Proof/Machine/HostPort.lean ====
section
/-!
DEFINITION. The moves of the host and the peripherals between ticks (70 R420): requests, interrupt lines, the
snapshot port, the intercept port, the status outputs, and driving the engine tick by tick. The scheduler
calls are in Ops.lean. What 70 R421 excludes has no move.
-/

namespace Sys2Proof.Machine

/-- `request_nmi()` (60 R332). -/
def State.requestNmi (s : State) : State := { s with nmiLatch := true }

/-- `request_reset()` (60 R332). -/
def State.requestReset (s : State) : State := { s with resetPending := true }

/-- A snapshot or restore request posted; it replaces a pending one (10 R43). -/
def State.postSnapshot (s : State) (r : SnapRequest) : State := { s with snapReq := some r }

/-- The IRQ output of source `n` set (60 R330). -/
def State.setIrqLine (s : State) (n : Nat) (level : Bool) : State :=
  { s with irqLines := s.irqLines.set n level }

/-- The NMI output of source `n` set (60 R330). -/
def State.setNmiLine (s : State) (n : Nat) (level : Bool) : State :=
  { s with nmiLines := s.nmiLines.set n level }

/-- `remove_intercept(addr)`: no effect where none is installed (20 R84, R85). -/
def State.removeIntercept (s : State) (addr : Word) : State :=
  { s with intercepts := s.intercepts.filter fun e => e.1 != addr }

/-- `install_intercept(addr, handler)`: it replaces a handler installed there (20 R84, R85). -/
def State.installIntercept (s : State) (addr : Word) (h : Handler) : State :=
  { s with intercepts := (addr, h) :: (s.removeIntercept addr).intercepts }

/-- The status outputs of 00 R15 (8): halt code, fault, cycle counter. -/
def State.status (s : State) : Option HaltCode × Option Fault × Nat := (s.halted, s.fault, s.cycles)

/-- A host loop that drives the engine tick by tick, at most `n` ticks, until its condition holds (00 R7,
70 R420 "drive the engine"). -/
def driveTicks (stop : State → Bool) : Nat → State → State
  | 0, s => s
  | n + 1, s => if stop s then s else driveTicks stop n (engineTick s)

end Sys2Proof.Machine
end

