-- ==== Sys2Proof/Tests/Slice0.lean ====
section
/-!
SUPPORT. The model's own tests: the checks of WellFormed, words written out from 30 R104, the vectors of
95_test_vectors.md, and for each obligation a witness that meets its hypotheses.
-/

namespace Sys2Proof.Tests

open Sys2Proof Sys2Proof.Machine

set_option Elab.async false

/-! ## Helpers -/

/-- What each list of bytes decodes to, where nothing is left over. -/
def readsAs (words : List (List Nat)) : List (Instr × Nat) :=
  words.filterMap fun w =>
    match decode {} (w.map (BitVec.ofNat 8)) with
    | .ok (i, operand, []) => some (i, operand)
    | _ => none

/-- Memory with runs of bytes placed. -/
def placed (runs : List (Nat × List Nat)) : Memory :=
  runs.foldl (fun m r => (r.2.zipIdx r.1).foldl (fun m c => m.write c.2 (BitVec.ofNat 8 c.1)) m) []

/-- A state at rest with the registers A, X, Y, S, P, PC and runs of bytes placed, no cycle counted. -/
def cpu (a x y s p pc : Nat) (runs : List (Nat × List Nat)) : State :=
  { State.reset with
    a := BitVec.ofNat 8 a
    x := BitVec.ofNat 8 x
    y := BitVec.ofNat 8 y
    sp := BitVec.ofNat 8 s
    p := BitVec.ofNat 8 p
    pc := BitVec.ofNat 16 pc
    cycles := 0
    mem := placed runs }

/-- A state at rest at 0x0600 with a program there. -/
def prog (bytes : List Nat) : State := cpu 0 0 0 0xFD 0x24 0x0600 [(0x0600, bytes)]

/-- The state an outcome shows; the reset state for a stop. -/
def nextOf : Host.Outcome State Fault Refusal → State
  | .next s => s
  | _ => State.reset

/-- The outcome is a next state. -/
def isNext : Host.Outcome State Fault Refusal → Bool
  | .next _ => true
  | _ => false

/-- The fault or refusal an outcome shows. -/
def stopOf : Host.Outcome State Fault Refusal → Option (Fault ⊕ Refusal)
  | .next _ => none
  | .fault f => some (.inl f)
  | .refused e => some (.inr e)

/-- Why bytes spell no instruction. -/
def failure (cfg : Config) (bytes : List Byte) : Option DecodeFailure :=
  match decode cfg bytes with
  | .ok _ => none
  | .error e => some e

/-- An outcome that is a next state is its next state. -/
theorem eq_next : ∀ {o : Host.Outcome State Fault Refusal}, isNext o = true → o = .next (nextOf o)
  | .next _, _ => rfl

/-- The outcome is a next state at a quiescent point without a fault, with these registers, cycles, halt and
bytes of memory. -/
def shows (o : Host.Outcome State Fault Refusal) (a x y s p pc cycles : Nat) (h : Option HaltCode)
    (m : List (Nat × Nat)) : Bool :=
  match o with
  | .next t =>
    [t.a.toNat, t.x.toNat, t.y.toNat, t.sp.toNat, t.p.toNat, t.pc.toNat, t.cycles] ==
        [a, x, y, s, p, pc, cycles] &&
      decide (t.halted = h) && t.fault.isNone && t.queue.isEmpty &&
      m.all fun c => (t.mem.read c.1).toNat == c.2
  | _ => false

/-- A bus read of a trace. -/
def r (addr v : Nat) : BusCycle := .read (BitVec.ofNat 16 addr) (BitVec.ofNat 8 v)

/-- A bus write of a trace. -/
def w (addr v : Nat) : BusCycle := .write (BitVec.ofNat 16 addr) (BitVec.ofNat 8 v)

/-- The bus cycles of one step. -/
def busOf (s : State) : List BusCycle := (nextOf (step s)).bus

/-- The state after some ticks. -/
def ticks (n : Nat) (s : State) : State := engineTick^[n] s

/-! ## Decoding: words of 30 R104 -/

theorem test_decode_LDA :
    readsAs [
      [0xA9, 0x34], [0xA5, 0x34], [0xB5, 0x34], [0xAD, 0x34, 0x12], [0xBD, 0x34, 0x12], [0xB9, 0x34, 0x12],
      [0xA1, 0x34], [0xB1, 0x34]] = [
      (.ldaImm, 0x34), (.ldaZp, 0x34), (.ldaZpx, 0x34), (.ldaAbs, 0x1234), (.ldaAbx, 0x1234),
      (.ldaAby, 0x1234), (.ldaIzx, 0x34), (.ldaIzy, 0x34)] := by decide
theorem test_decode_LDX :
    readsAs [
      [0xA2, 0x34], [0xA6, 0x34], [0xB6, 0x34], [0xAE, 0x34, 0x12], [0xBE, 0x34, 0x12]] = [
      (.ldxImm, 0x34), (.ldxZp, 0x34), (.ldxZpy, 0x34), (.ldxAbs, 0x1234), (.ldxAby, 0x1234)] := by decide
theorem test_decode_LDY :
    readsAs [
      [0xA0, 0x34], [0xA4, 0x34], [0xB4, 0x34], [0xAC, 0x34, 0x12], [0xBC, 0x34, 0x12]] = [
      (.ldyImm, 0x34), (.ldyZp, 0x34), (.ldyZpx, 0x34), (.ldyAbs, 0x1234), (.ldyAbx, 0x1234)] := by decide
theorem test_decode_STA :
    readsAs [
      [0x85, 0x34], [0x95, 0x34], [0x8D, 0x34, 0x12], [0x9D, 0x34, 0x12], [0x99, 0x34, 0x12], [0x81, 0x34],
      [0x91, 0x34]] = [
      (.staZp, 0x34), (.staZpx, 0x34), (.staAbs, 0x1234), (.staAbx, 0x1234), (.staAby, 0x1234),
      (.staIzx, 0x34), (.staIzy, 0x34)] := by decide
theorem test_decode_STX :
    readsAs [
      [0x86, 0x34], [0x96, 0x34], [0x8E, 0x34, 0x12]] = [
      (.stxZp, 0x34), (.stxZpy, 0x34), (.stxAbs, 0x1234)] := by decide
theorem test_decode_STY :
    readsAs [
      [0x84, 0x34], [0x94, 0x34], [0x8C, 0x34, 0x12]] = [
      (.styZp, 0x34), (.styZpx, 0x34), (.styAbs, 0x1234)] := by decide
theorem test_decode_TAX : readsAs [[0xAA]] = [(.tax, 0)] := by decide
theorem test_decode_TAY : readsAs [[0xA8]] = [(.tay, 0)] := by decide
theorem test_decode_TXA : readsAs [[0x8A]] = [(.txa, 0)] := by decide
theorem test_decode_TYA : readsAs [[0x98]] = [(.tya, 0)] := by decide
theorem test_decode_TSX : readsAs [[0xBA]] = [(.tsx, 0)] := by decide
theorem test_decode_TXS : readsAs [[0x9A]] = [(.txs, 0)] := by decide
theorem test_decode_ADC :
    readsAs [
      [0x69, 0x34], [0x65, 0x34], [0x75, 0x34], [0x6D, 0x34, 0x12], [0x7D, 0x34, 0x12], [0x79, 0x34, 0x12],
      [0x61, 0x34], [0x71, 0x34]] = [
      (.adcImm, 0x34), (.adcZp, 0x34), (.adcZpx, 0x34), (.adcAbs, 0x1234), (.adcAbx, 0x1234),
      (.adcAby, 0x1234), (.adcIzx, 0x34), (.adcIzy, 0x34)] := by decide
theorem test_decode_SBC :
    readsAs [
      [0xE9, 0x34], [0xE5, 0x34], [0xF5, 0x34], [0xED, 0x34, 0x12], [0xFD, 0x34, 0x12], [0xF9, 0x34, 0x12],
      [0xE1, 0x34], [0xF1, 0x34]] = [
      (.sbcImm, 0x34), (.sbcZp, 0x34), (.sbcZpx, 0x34), (.sbcAbs, 0x1234), (.sbcAbx, 0x1234),
      (.sbcAby, 0x1234), (.sbcIzx, 0x34), (.sbcIzy, 0x34)] := by decide
theorem test_decode_AND :
    readsAs [
      [0x29, 0x34], [0x25, 0x34], [0x35, 0x34], [0x2D, 0x34, 0x12], [0x3D, 0x34, 0x12], [0x39, 0x34, 0x12],
      [0x21, 0x34], [0x31, 0x34]] = [
      (.andImm, 0x34), (.andZp, 0x34), (.andZpx, 0x34), (.andAbs, 0x1234), (.andAbx, 0x1234),
      (.andAby, 0x1234), (.andIzx, 0x34), (.andIzy, 0x34)] := by decide
theorem test_decode_ORA :
    readsAs [
      [0x09, 0x34], [0x05, 0x34], [0x15, 0x34], [0x0D, 0x34, 0x12], [0x1D, 0x34, 0x12], [0x19, 0x34, 0x12],
      [0x01, 0x34], [0x11, 0x34]] = [
      (.oraImm, 0x34), (.oraZp, 0x34), (.oraZpx, 0x34), (.oraAbs, 0x1234), (.oraAbx, 0x1234),
      (.oraAby, 0x1234), (.oraIzx, 0x34), (.oraIzy, 0x34)] := by decide
theorem test_decode_EOR :
    readsAs [
      [0x49, 0x34], [0x45, 0x34], [0x55, 0x34], [0x4D, 0x34, 0x12], [0x5D, 0x34, 0x12], [0x59, 0x34, 0x12],
      [0x41, 0x34], [0x51, 0x34]] = [
      (.eorImm, 0x34), (.eorZp, 0x34), (.eorZpx, 0x34), (.eorAbs, 0x1234), (.eorAbx, 0x1234),
      (.eorAby, 0x1234), (.eorIzx, 0x34), (.eorIzy, 0x34)] := by decide
theorem test_decode_CMP :
    readsAs [
      [0xC9, 0x34], [0xC5, 0x34], [0xD5, 0x34], [0xCD, 0x34, 0x12], [0xDD, 0x34, 0x12], [0xD9, 0x34, 0x12],
      [0xC1, 0x34], [0xD1, 0x34]] = [
      (.cmpImm, 0x34), (.cmpZp, 0x34), (.cmpZpx, 0x34), (.cmpAbs, 0x1234), (.cmpAbx, 0x1234),
      (.cmpAby, 0x1234), (.cmpIzx, 0x34), (.cmpIzy, 0x34)] := by decide
theorem test_decode_CPX :
    readsAs [
      [0xE0, 0x34], [0xE4, 0x34], [0xEC, 0x34, 0x12]] = [
      (.cpxImm, 0x34), (.cpxZp, 0x34), (.cpxAbs, 0x1234)] := by decide
theorem test_decode_CPY :
    readsAs [
      [0xC0, 0x34], [0xC4, 0x34], [0xCC, 0x34, 0x12]] = [
      (.cpyImm, 0x34), (.cpyZp, 0x34), (.cpyAbs, 0x1234)] := by decide
theorem test_decode_BIT :
    readsAs [
      [0x24, 0x34], [0x2C, 0x34, 0x12]] = [
      (.bitZp, 0x34), (.bitAbs, 0x1234)] := by decide
theorem test_decode_ASL :
    readsAs [
      [0x06, 0x34], [0x16, 0x34], [0x0E, 0x34, 0x12], [0x1E, 0x34, 0x12], [0x0A]] = [
      (.aslZp, 0x34), (.aslZpx, 0x34), (.aslAbs, 0x1234), (.aslAbx, 0x1234), (.aslAcc, 0)] := by decide
theorem test_decode_LSR :
    readsAs [
      [0x46, 0x34], [0x56, 0x34], [0x4E, 0x34, 0x12], [0x5E, 0x34, 0x12], [0x4A]] = [
      (.lsrZp, 0x34), (.lsrZpx, 0x34), (.lsrAbs, 0x1234), (.lsrAbx, 0x1234), (.lsrAcc, 0)] := by decide
theorem test_decode_ROL :
    readsAs [
      [0x26, 0x34], [0x36, 0x34], [0x2E, 0x34, 0x12], [0x3E, 0x34, 0x12], [0x2A]] = [
      (.rolZp, 0x34), (.rolZpx, 0x34), (.rolAbs, 0x1234), (.rolAbx, 0x1234), (.rolAcc, 0)] := by decide
theorem test_decode_ROR :
    readsAs [
      [0x66, 0x34], [0x76, 0x34], [0x6E, 0x34, 0x12], [0x7E, 0x34, 0x12], [0x6A]] = [
      (.rorZp, 0x34), (.rorZpx, 0x34), (.rorAbs, 0x1234), (.rorAbx, 0x1234), (.rorAcc, 0)] := by decide
theorem test_decode_INC :
    readsAs [
      [0xE6, 0x34], [0xF6, 0x34], [0xEE, 0x34, 0x12], [0xFE, 0x34, 0x12]] = [
      (.incZp, 0x34), (.incZpx, 0x34), (.incAbs, 0x1234), (.incAbx, 0x1234)] := by decide
theorem test_decode_DEC :
    readsAs [
      [0xC6, 0x34], [0xD6, 0x34], [0xCE, 0x34, 0x12], [0xDE, 0x34, 0x12]] = [
      (.decZp, 0x34), (.decZpx, 0x34), (.decAbs, 0x1234), (.decAbx, 0x1234)] := by decide
theorem test_decode_INX : readsAs [[0xE8]] = [(.inx, 0)] := by decide
theorem test_decode_INY : readsAs [[0xC8]] = [(.iny, 0)] := by decide
theorem test_decode_DEX : readsAs [[0xCA]] = [(.dex, 0)] := by decide
theorem test_decode_DEY : readsAs [[0x88]] = [(.dey, 0)] := by decide
theorem test_decode_PHA : readsAs [[0x48]] = [(.pha, 0)] := by decide
theorem test_decode_PHP : readsAs [[0x08]] = [(.php, 0)] := by decide
theorem test_decode_PLA : readsAs [[0x68]] = [(.pla, 0)] := by decide
theorem test_decode_PLP : readsAs [[0x28]] = [(.plp, 0)] := by decide
theorem test_decode_JMP :
    readsAs [
      [0x4C, 0x34, 0x12], [0x6C, 0x34, 0x12]] = [
      (.jmpAbs, 0x1234), (.jmpInd, 0x1234)] := by decide
theorem test_decode_JSR : readsAs [[0x20, 0x34, 0x12]] = [(.jsr, 0x1234)] := by decide
theorem test_decode_RTS : readsAs [[0x60]] = [(.rts, 0)] := by decide
theorem test_decode_RTI : readsAs [[0x40]] = [(.rti, 0)] := by decide
theorem test_decode_BRK : readsAs [[0x00]] = [(.brk, 0)] := by decide
theorem test_decode_BCC : readsAs [[0x90, 0x34]] = [(.bcc, 0x34)] := by decide
theorem test_decode_BCS : readsAs [[0xB0, 0x34]] = [(.bcs, 0x34)] := by decide
theorem test_decode_BEQ : readsAs [[0xF0, 0x34]] = [(.beq, 0x34)] := by decide
theorem test_decode_BMI : readsAs [[0x30, 0x34]] = [(.bmi, 0x34)] := by decide
theorem test_decode_BNE : readsAs [[0xD0, 0x34]] = [(.bne, 0x34)] := by decide
theorem test_decode_BPL : readsAs [[0x10, 0x34]] = [(.bpl, 0x34)] := by decide
theorem test_decode_BVC : readsAs [[0x50, 0x34]] = [(.bvc, 0x34)] := by decide
theorem test_decode_BVS : readsAs [[0x70, 0x34]] = [(.bvs, 0x34)] := by decide
theorem test_decode_CLC : readsAs [[0x18]] = [(.clc, 0)] := by decide
theorem test_decode_SEC : readsAs [[0x38]] = [(.sec, 0)] := by decide
theorem test_decode_CLI : readsAs [[0x58]] = [(.cli, 0)] := by decide
theorem test_decode_SEI : readsAs [[0x78]] = [(.sei, 0)] := by decide
theorem test_decode_CLD : readsAs [[0xD8]] = [(.cld, 0)] := by decide
theorem test_decode_SED : readsAs [[0xF8]] = [(.sed, 0)] := by decide
theorem test_decode_CLV : readsAs [[0xB8]] = [(.clv, 0)] := by decide
theorem test_decode_NOP : readsAs [[0xEA]] = [(.nop, 0)] := by decide
theorem test_decode_HALT : readsAs [[0x02]] = [(.halt, 0)] := by decide
theorem test_decode_TEST : readsAs [[0x12, 0x34, 0x12]] = [(.test, 0x1234)] := by decide
theorem test_decode_TRAP : readsAs [[0x22, 0x34, 0x12]] = [(.trap, 0x1234)] := by decide

/-! ## One step -/

/-! ### Vectors of 95 section 2 for 41_load_store_transfer.md -/

/-- `LDA #$00`, `LDA #$80`, `LDA $12FF,X`, `LDA $1200,X`, `LDA ($FF,X)`, `LDA ($40),Y` -/
theorem test_step_LDA :
    shows (step (cpu 0x55 0x00 0x00 0xFD 0x24 0x0600 [(0x0600, [0xA9, 0x00])]))
      0x00 0x00 0x00 0xFD 0x26 0x0602 2 none [] = true ∧
    shows (step (cpu 0x00 0x00 0x00 0xFD 0x26 0x0600 [(0x0600, [0xA9, 0x80])]))
      0x80 0x00 0x00 0xFD 0xA4 0x0602 2 none [] = true ∧
    shows (step (cpu 0x00 0x01 0x00 0xFD 0x24 0x0600 [(0x0600, [0xBD, 0xFF, 0x12]), (0x1300, [0x7F])]))
      0x7F 0x01 0x00 0xFD 0x24 0x0603 5 none [] = true ∧
    shows (step (cpu 0x00 0x01 0x00 0xFD 0x24 0x0600 [(0x0600, [0xBD, 0x00, 0x12]), (0x1201, [0x01])]))
      0x01 0x01 0x00 0xFD 0x24 0x0603 4 none [] = true ∧
    shows (step (cpu 0x00 0x00 0x00 0xFD 0x24 0x0600
        [(0x0600, [0xA1, 0xFF]), (0x00FF, [0x34]), (0x0000, [0x12]), (0x1234, [0x99])]))
      0x99 0x00 0x00 0xFD 0xA4 0x0602 6 none [] = true ∧
    shows (step (cpu 0x00 0x00 0x10 0xFD 0x24 0x0600
        [(0x0600, [0xB1, 0x40]), (0x0040, [0xF8]), (0x0041, [0x20]), (0x2108, [0x5A])]))
      0x5A 0x00 0x10 0xFD 0x24 0x0602 6 none [] = true := by
  decide +kernel
/-- `LDX $F0,Y` -/
theorem test_step_LDX :
    shows (step (cpu 0x00 0x00 0x20 0xFD 0x24 0x0600 [(0x0600, [0xB6, 0xF0]), (0x0010, [0xC3])]))
      0x00 0xC3 0x20 0xFD 0xA4 0x0602 4 none [] = true := by
  decide +kernel
/-- `STA $12FF,X`, `STA ($40),Y` -/
theorem test_step_STA :
    shows (step (cpu 0xAB 0x01 0x00 0xFD 0x24 0x0600 [(0x0600, [0x9D, 0xFF, 0x12])]))
      0xAB 0x01 0x00 0xFD 0x24 0x0603 5 none [(0x1300, 0xAB)] = true ∧
    shows (step (cpu 0x11 0x00 0x01 0xFD 0x24 0x0600
        [(0x0600, [0x91, 0x40]), (0x0040, [0x00]), (0x0041, [0x30])]))
      0x11 0x00 0x01 0xFD 0x24 0x0602 6 none [(0x3001, 0x11)] = true := by
  decide +kernel
/-- `TSX` -/
theorem test_step_TSX :
    shows (step (cpu 0x00 0x00 0x00 0x80 0x24 0x0600 [(0x0600, [0xBA])]))
      0x00 0x80 0x00 0x80 0xA4 0x0601 2 none [] = true := by
  decide +kernel
/-- `TXS` -/
theorem test_step_TXS :
    shows (step (cpu 0x00 0x00 0x00 0xFD 0x24 0x0600 [(0x0600, [0x9A])]))
      0x00 0x00 0x00 0x00 0x24 0x0601 2 none [] = true := by
  decide +kernel
/-- `TAY` -/
theorem test_step_TAY :
    shows (step (cpu 0x00 0x00 0x33 0xFD 0xA4 0x0600 [(0x0600, [0xA8])]))
      0x00 0x00 0x00 0xFD 0x26 0x0601 2 none [] = true := by
  decide +kernel

/-! ### Vectors of 95 section 2 for 42_arith_logic.md -/

/-- `ADC #$01`, `ADC #$01`, `ADC #$80`, `ADC #$00` -/
theorem test_step_ADC_binary :
    shows (step (cpu 0x7F 0x00 0x00 0xFD 0x24 0x0600 [(0x0600, [0x69, 0x01])]))
      0x80 0x00 0x00 0xFD 0xE4 0x0602 2 none [] = true ∧
    shows (step (cpu 0xFF 0x00 0x00 0xFD 0x24 0x0600 [(0x0600, [0x69, 0x01])]))
      0x00 0x00 0x00 0xFD 0x27 0x0602 2 none [] = true ∧
    shows (step (cpu 0x80 0x00 0x00 0xFD 0x24 0x0600 [(0x0600, [0x69, 0x80])]))
      0x00 0x00 0x00 0xFD 0x67 0x0602 2 none [] = true ∧
    shows (step (cpu 0x00 0x00 0x00 0xFD 0x25 0x0600 [(0x0600, [0x69, 0x00])]))
      0x01 0x00 0x00 0xFD 0x24 0x0602 2 none [] = true := by
  decide +kernel
/-- `SBC #$01`, `SBC #$01`, `SBC #$00` -/
theorem test_step_SBC_binary :
    shows (step (cpu 0x00 0x00 0x00 0xFD 0x25 0x0600 [(0x0600, [0xE9, 0x01])]))
      0xFF 0x00 0x00 0xFD 0xA4 0x0602 2 none [] = true ∧
    shows (step (cpu 0x80 0x00 0x00 0xFD 0x25 0x0600 [(0x0600, [0xE9, 0x01])]))
      0x7F 0x00 0x00 0xFD 0x65 0x0602 2 none [] = true ∧
    shows (step (cpu 0x00 0x00 0x00 0xFD 0x24 0x0600 [(0x0600, [0xE9, 0x00])]))
      0xFF 0x00 0x00 0xFD 0xA4 0x0602 2 none [] = true := by
  decide +kernel
/-- `ADC #$01`, `ADC #$01`, `ADC #$46`, `ADC #$0F` -/
theorem test_step_ADC_decimal :
    shows (step (cpu 0x99 0x00 0x00 0xFD 0x2C 0x0600 [(0x0600, [0x69, 0x01])]))
      0x00 0x00 0x00 0xFD 0xAD 0x0602 2 none [] = true ∧
    shows (step (cpu 0x09 0x00 0x00 0xFD 0x2C 0x0600 [(0x0600, [0x69, 0x01])]))
      0x10 0x00 0x00 0xFD 0x2C 0x0602 2 none [] = true ∧
    shows (step (cpu 0x58 0x00 0x00 0xFD 0x2C 0x0600 [(0x0600, [0x69, 0x46])]))
      0x04 0x00 0x00 0xFD 0xED 0x0602 2 none [] = true ∧
    shows (step (cpu 0x0F 0x00 0x00 0xFD 0x2C 0x0600 [(0x0600, [0x69, 0x0F])]))
      0x14 0x00 0x00 0xFD 0x2C 0x0602 2 none [] = true := by
  decide +kernel
/-- `SBC #$01`, `SBC #$01`, `SBC #$12` -/
theorem test_step_SBC_decimal :
    shows (step (cpu 0x00 0x00 0x00 0xFD 0x2D 0x0600 [(0x0600, [0xE9, 0x01])]))
      0x99 0x00 0x00 0xFD 0xAC 0x0602 2 none [] = true ∧
    shows (step (cpu 0x10 0x00 0x00 0xFD 0x2D 0x0600 [(0x0600, [0xE9, 0x01])]))
      0x09 0x00 0x00 0xFD 0x2D 0x0602 2 none [] = true ∧
    shows (step (cpu 0x46 0x00 0x00 0xFD 0x2D 0x0600 [(0x0600, [0xE9, 0x12])]))
      0x34 0x00 0x00 0xFD 0x2D 0x0602 2 none [] = true := by
  decide +kernel
/-- `AND #$0F` -/
theorem test_step_AND :
    shows (step (cpu 0xF0 0x00 0x00 0xFD 0x24 0x0600 [(0x0600, [0x29, 0x0F])]))
      0x00 0x00 0x00 0xFD 0x26 0x0602 2 none [] = true := by
  decide +kernel
/-- `ORA #$80` -/
theorem test_step_ORA :
    shows (step (cpu 0x01 0x00 0x00 0xFD 0x24 0x0600 [(0x0600, [0x09, 0x80])]))
      0x81 0x00 0x00 0xFD 0xA4 0x0602 2 none [] = true := by
  decide +kernel
/-- `EOR #$FF` -/
theorem test_step_EOR :
    shows (step (cpu 0xFF 0x00 0x00 0xFD 0x24 0x0600 [(0x0600, [0x49, 0xFF])]))
      0x00 0x00 0x00 0xFD 0x26 0x0602 2 none [] = true := by
  decide +kernel
/-- `CMP #$40`, `CMP #$41` -/
theorem test_step_CMP :
    shows (step (cpu 0x40 0x00 0x00 0xFD 0x24 0x0600 [(0x0600, [0xC9, 0x40])]))
      0x40 0x00 0x00 0xFD 0x27 0x0602 2 none [] = true ∧
    shows (step (cpu 0x40 0x00 0x00 0xFD 0x24 0x0600 [(0x0600, [0xC9, 0x41])]))
      0x40 0x00 0x00 0xFD 0xA4 0x0602 2 none [] = true := by
  decide +kernel
/-- `CPX #$10` -/
theorem test_step_CPX :
    shows (step (cpu 0x00 0x20 0x00 0xFD 0x24 0x0600 [(0x0600, [0xE0, 0x10])]))
      0x00 0x20 0x00 0xFD 0x25 0x0602 2 none [] = true := by
  decide +kernel
/-- `CPY #$00` -/
theorem test_step_CPY :
    shows (step (cpu 0x00 0x00 0x80 0xFD 0x24 0x0600 [(0x0600, [0xC0, 0x00])]))
      0x00 0x00 0x80 0xFD 0xA5 0x0602 2 none [] = true := by
  decide +kernel
/-- `BIT $10` -/
theorem test_step_BIT :
    shows (step (cpu 0x01 0x00 0x00 0xFD 0x24 0x0600 [(0x0600, [0x24, 0x10]), (0x0010, [0xC0])]))
      0x01 0x00 0x00 0xFD 0xE6 0x0602 3 none [] = true := by
  decide +kernel

/-! ### Vectors of 95 section 2 for 43_rmw_incdec.md -/

/-- `ASL A` -/
theorem test_step_ASL :
    shows (step (cpu 0x80 0x00 0x00 0xFD 0x24 0x0600 [(0x0600, [0x0A])]))
      0x00 0x00 0x00 0xFD 0x27 0x0601 2 none [] = true := by
  decide +kernel
/-- `LSR $10` -/
theorem test_step_LSR :
    shows (step (cpu 0x00 0x00 0x00 0xFD 0x24 0x0600 [(0x0600, [0x46, 0x10]), (0x0010, [0x01])]))
      0x00 0x00 0x00 0xFD 0x27 0x0602 5 none [(0x0010, 0x00)] = true := by
  decide +kernel
/-- `ROL A` -/
theorem test_step_ROL :
    shows (step (cpu 0x40 0x00 0x00 0xFD 0x25 0x0600 [(0x0600, [0x2A])]))
      0x81 0x00 0x00 0xFD 0xA4 0x0601 2 none [] = true := by
  decide +kernel
/-- `ROR A`, `ROR A` -/
theorem test_step_ROR :
    shows (step (cpu 0x01 0x00 0x00 0xFD 0x24 0x0600 [(0x0600, [0x6A])]))
      0x00 0x00 0x00 0xFD 0x27 0x0601 2 none [] = true ∧
    shows (step (cpu 0x00 0x00 0x00 0xFD 0x25 0x0600 [(0x0600, [0x6A])]))
      0x80 0x00 0x00 0xFD 0xA4 0x0601 2 none [] = true := by
  decide +kernel
/-- `INC $10` -/
theorem test_step_INC :
    shows (step (cpu 0x00 0x00 0x00 0xFD 0x24 0x0600 [(0x0600, [0xE6, 0x10]), (0x0010, [0xFF])]))
      0x00 0x00 0x00 0xFD 0x26 0x0602 5 none [(0x0010, 0x00)] = true := by
  decide +kernel
/-- `DEC $1234,X` -/
theorem test_step_DEC :
    shows (step (cpu 0x00 0x01 0x00 0xFD 0x24 0x0600 [(0x0600, [0xDE, 0x34, 0x12]), (0x1235, [0x00])]))
      0x00 0x01 0x00 0xFD 0xA4 0x0603 7 none [(0x1235, 0xFF)] = true := by
  decide +kernel
/-- `INX` -/
theorem test_step_INX :
    shows (step (cpu 0x00 0xFF 0x00 0xFD 0x24 0x0600 [(0x0600, [0xE8])]))
      0x00 0x00 0x00 0xFD 0x26 0x0601 2 none [] = true := by
  decide +kernel
/-- `DEY` -/
theorem test_step_DEY :
    shows (step (cpu 0x00 0x00 0x00 0xFD 0x24 0x0600 [(0x0600, [0x88])]))
      0x00 0x00 0xFF 0xFD 0xA4 0x0601 2 none [] = true := by
  decide +kernel

/-! ### Vectors of 95 section 2 for 44_stack.md -/

/-- `PHA`, `PHA` -/
theorem test_step_PHA :
    shows (step (cpu 0x3C 0x00 0x00 0xFF 0x24 0x0600 [(0x0600, [0x48])]))
      0x3C 0x00 0x00 0xFE 0x24 0x0601 3 none [(0x01FF, 0x3C)] = true ∧
    shows (step (cpu 0x3C 0x00 0x00 0x00 0x24 0x0600 [(0x0600, [0x48])]))
      0x3C 0x00 0x00 0xFF 0x24 0x0601 3 none [(0x0100, 0x3C)] = true := by
  decide +kernel
/-- `PHP` -/
theorem test_step_PHP :
    shows (step (cpu 0x00 0x00 0x00 0xFF 0x00 0x0600 [(0x0600, [0x08])]))
      0x00 0x00 0x00 0xFE 0x00 0x0601 3 none [(0x01FF, 0x30)] = true := by
  decide +kernel
/-- `PLA` -/
theorem test_step_PLA :
    shows (step (cpu 0x00 0x00 0x00 0xFE 0x24 0x0600 [(0x0600, [0x68]), (0x01FF, [0x00])]))
      0x00 0x00 0x00 0xFF 0x26 0x0601 4 none [] = true := by
  decide +kernel
/-- `PLP`, `PLP` -/
theorem test_step_PLP :
    shows (step (cpu 0x00 0x00 0x00 0xFE 0x24 0x0600 [(0x0600, [0x28]), (0x01FF, [0xFF])]))
      0x00 0x00 0x00 0xFF 0xFF 0x0601 4 none [] = true ∧
    shows (step (cpu 0x00 0x00 0x00 0xFF 0x24 0x0600 [(0x0600, [0x28]), (0x0100, [0x00])]))
      0x00 0x00 0x00 0x00 0x00 0x0601 4 none [] = true := by
  decide +kernel

/-! ### Vectors of 95 section 2 for 45_control_flow.md -/

/-- `JMP $1234`, `JMP ($30FF)` -/
theorem test_step_JMP :
    shows (step (cpu 0x00 0x00 0x00 0xFD 0x24 0x0600 [(0x0600, [0x4C, 0x34, 0x12])]))
      0x00 0x00 0x00 0xFD 0x24 0x1234 3 none [] = true ∧
    shows (step (cpu 0x00 0x00 0x00 0xFD 0x24 0x0600
        [(0x0600, [0x6C, 0xFF, 0x30]), (0x30FF, [0x80]), (0x3000, [0x50]), (0x3100, [0x40])]))
      0x00 0x00 0x00 0xFD 0x24 0x5080 5 none [] = true := by
  decide +kernel
/-- `JSR $1234` -/
theorem test_step_JSR :
    shows (step (cpu 0x00 0x00 0x00 0xFF 0x24 0x0600 [(0x0600, [0x20, 0x34, 0x12])]))
      0x00 0x00 0x00 0xFD 0x24 0x1234 6 none [(0x01FF, 0x06), (0x01FE, 0x02)] = true := by
  decide +kernel
/-- `RTS` -/
theorem test_step_RTS :
    shows (step (cpu 0x00 0x00 0x00 0xFD 0x24 0x0600 [(0x0600, [0x60]), (0x01FE, [0x02]), (0x01FF, [0x06])]))
      0x00 0x00 0x00 0xFF 0x24 0x0603 6 none [] = true := by
  decide +kernel
/-- `RTI` -/
theorem test_step_RTI :
    shows (step (cpu 0x00 0x00 0x00 0xFC 0x24 0x0600
        [(0x0600, [0x40]), (0x01FD, [0xC3]), (0x01FE, [0x34]), (0x01FF, [0x12])]))
      0x00 0x00 0x00 0xFF 0xC3 0x1234 6 none [] = true := by
  decide +kernel
/-- `BRK` -/
theorem test_step_BRK :
    shows (step (cpu 0x00 0x00 0x00 0xFF 0x20 0x0600 [(0x0600, [0x00]), (0xFFFE, [0x00]), (0xFFFF, [0x90])]))
      0x00 0x00 0x00 0xFC 0x24 0x9000 7 none [(0x01FF, 0x06), (0x01FE, 0x02), (0x01FD, 0x30)] = true := by
  decide +kernel
/-- `BNE $0610`, `BNE $0610`, `BNE $0710` -/
theorem test_step_BNE :
    shows (step (cpu 0x00 0x00 0x00 0xFD 0x26 0x0600 [(0x0600, [0xD0, 0x0E])]))
      0x00 0x00 0x00 0xFD 0x26 0x0602 2 none [] = true ∧
    shows (step (cpu 0x00 0x00 0x00 0xFD 0x24 0x0600 [(0x0600, [0xD0, 0x0E])]))
      0x00 0x00 0x00 0xFD 0x24 0x0610 3 none [] = true ∧
    shows (step (cpu 0x00 0x00 0x00 0xFD 0x24 0x06F0 [(0x06F0, [0xD0, 0x1E])]))
      0x00 0x00 0x00 0xFD 0x24 0x0710 4 none [] = true := by
  decide +kernel
/-- `BCC $05F0` -/
theorem test_step_BCC :
    shows (step (cpu 0x00 0x00 0x00 0xFD 0x24 0x0600 [(0x0600, [0x90, 0xEE])]))
      0x00 0x00 0x00 0xFD 0x24 0x05F0 4 none [] = true := by
  decide +kernel
/-- `BMI $0602` -/
theorem test_step_BMI :
    shows (step (cpu 0x00 0x00 0x00 0xFD 0xA4 0x0600 [(0x0600, [0x30, 0x00])]))
      0x00 0x00 0x00 0xFD 0xA4 0x0602 3 none [] = true := by
  decide +kernel
/-- `BVS $0600` -/
theorem test_step_BVS :
    shows (step (cpu 0x00 0x00 0x00 0xFD 0x64 0x0600 [(0x0600, [0x70, 0xFE])]))
      0x00 0x00 0x00 0xFD 0x64 0x0600 3 none [] = true := by
  decide +kernel

/-! ### Vectors of 95 section 2 for 46_flags_nop.md -/

/-- `CLC` -/
theorem test_step_CLC :
    shows (step (cpu 0x00 0x00 0x00 0xFD 0x25 0x0600 [(0x0600, [0x18])]))
      0x00 0x00 0x00 0xFD 0x24 0x0601 2 none [] = true := by
  decide +kernel
/-- `SEC` -/
theorem test_step_SEC :
    shows (step (cpu 0x00 0x00 0x00 0xFD 0x24 0x0600 [(0x0600, [0x38])]))
      0x00 0x00 0x00 0xFD 0x25 0x0601 2 none [] = true := by
  decide +kernel
/-- `CLI` -/
theorem test_step_CLI :
    shows (step (cpu 0x00 0x00 0x00 0xFD 0x24 0x0600 [(0x0600, [0x58])]))
      0x00 0x00 0x00 0xFD 0x20 0x0601 2 none [] = true := by
  decide +kernel
/-- `SEI` -/
theorem test_step_SEI :
    shows (step (cpu 0x00 0x00 0x00 0xFD 0x20 0x0600 [(0x0600, [0x78])]))
      0x00 0x00 0x00 0xFD 0x24 0x0601 2 none [] = true := by
  decide +kernel
/-- `CLD` -/
theorem test_step_CLD :
    shows (step (cpu 0x00 0x00 0x00 0xFD 0x2C 0x0600 [(0x0600, [0xD8])]))
      0x00 0x00 0x00 0xFD 0x24 0x0601 2 none [] = true := by
  decide +kernel
/-- `SED` -/
theorem test_step_SED :
    shows (step (cpu 0x00 0x00 0x00 0xFD 0x24 0x0600 [(0x0600, [0xF8])]))
      0x00 0x00 0x00 0xFD 0x2C 0x0601 2 none [] = true := by
  decide +kernel
/-- `CLV` -/
theorem test_step_CLV :
    shows (step (cpu 0x00 0x00 0x00 0xFD 0x64 0x0600 [(0x0600, [0xB8])]))
      0x00 0x00 0x00 0xFD 0x24 0x0601 2 none [] = true := by
  decide +kernel
/-- `NOP` -/
theorem test_step_NOP :
    shows (step (cpu 0x00 0x00 0x00 0xFD 0x24 0x0600 [(0x0600, [0xEA])]))
      0x00 0x00 0x00 0xFD 0x24 0x0601 2 none [] = true := by
  decide +kernel

/-! ### Vectors of 95 section 2 for 47_debug_ext.md -/

/-- `HALT` -/
theorem test_step_HALT :
    shows (step (cpu 0x00 0x00 0x00 0xFD 0x24 0x0600 [(0x0600, [0x02])]))
      0x00 0x00 0x00 0xFD 0x24 0x0601 2 (some .halted) [] = true := by
  decide +kernel
/-- `TEST #$03,#$03`, `TEST #$01,#$00` -/
theorem test_step_TEST :
    shows (step (cpu 0x00 0x00 0x00 0xFD 0x27 0x0600 [(0x0600, [0x12, 0x03, 0x03])]))
      0x00 0x00 0x00 0xFD 0x27 0x0603 3 none [] = true ∧
    shows (step (cpu 0x00 0x00 0x00 0xFD 0x27 0x0600 [(0x0600, [0x12, 0x01, 0x00])]))
      0x00 0x00 0x00 0xFD 0x27 0x0603 3 (some .testMismatch) [] = true := by
  decide +kernel
/-- `TRAP #$01,#$01`, `TRAP #$01,#$01`, `TRAP #$00,#$00` -/
theorem test_step_TRAP :
    shows (step (cpu 0x00 0x00 0x00 0xFD 0x24 0x0600 [(0x0600, [0x22, 0x01, 0x01])]))
      0x00 0x00 0x00 0xFD 0x24 0x0603 3 none [] = true ∧
    shows (step (cpu 0x00 0x00 0x00 0xFD 0x25 0x0600 [(0x0600, [0x22, 0x01, 0x01])]))
      0x00 0x00 0x00 0xFD 0x25 0x0603 3 (some .trapped) [] = true ∧
    shows (step (cpu 0x00 0x00 0x00 0xFD 0x24 0x0600 [(0x0600, [0x22, 0x00, 0x00])]))
      0x00 0x00 0x00 0xFD 0x24 0x0603 3 (some .trapped) [] = true := by
  decide +kernel

/-! ## WellFormed, encoding and decoding: the checks refuse -/

/-- 30 R110: 0x100 is no byte, 0x10000 is no word, and an implied instruction has no operand. -/
theorem test_operand_too_wide :
    Instr.operandFits .ldaImm 0x100 = false ∧ Instr.operandFits .jmpAbs 0x10000 = false ∧
    Instr.operandFits .tax 1 = false ∧ Instr.operandFits .ldaImm 0xFF = true ∧
    Instr.operandFits .jmpAbs 0xFFFF = true ∧ Instr.operandFits .tax 0 = true := by decide

/-- 47 R314: no debug extension is registered when `DEBUG_EXT` is false. -/
theorem test_debug_unregistered :
    Instr.registered { debugExt := false } .halt = false ∧
    Instr.registered { debugExt := false } .test = false ∧
    Instr.registered { debugExt := false } .trap = false ∧
    Instr.registered { debugExt := false } .brk = true ∧ Instr.registered {} .halt = true := by decide

/-- 00 R8, 30 R109: a queue below 16, colliding debug opcodes and a documented debug opcode are refused. -/
theorem test_bad_configurations :
    Config.wellFormed { q := 15 } = false ∧
    Config.wellFormed { opcHalt := 0x12#8 } = false ∧
    Config.wellFormed { opcTrap := 0xEA#8 } = false ∧
    Config.wellFormed { debugExt := false, opcTrap := 0xEA#8 } = false ∧
    Config.wellFormed { debugExt := false, opcHalt := 0x12#8 } = false ∧
    Config.wellFormed {} = true ∧ Config.wellFormed { debugExt := false } = true := by decide +kernel

/-- 30 R109: an engine with such a configuration has no run, neither by steps nor by ticks. -/
theorem test_bad_configuration_refused :
    let s := { prog [0xEA] with cfg := { debugExt := false, opcTrap := 0xEA } }
    stopOf (step s) = some (.inr .badConfiguration) ∧ ticks 3 s = s ∧
      driveTicks (fun _ => false) 3 s = s := by
  decide +kernel

/-- 95 section 6: 0x9E, 0x89 and 0x80 spell no instruction; a missing operand byte is named. -/
theorem test_decode_fails :
    failure {} [0x9E, 0x34, 0x12] = some (.unregistered 0x9E) ∧
    failure {} [0x89, 0x34] = some (.unregistered 0x89) ∧
    failure {} [0x80, 0x34] = some (.unregistered 0x80) ∧
    failure { debugExt := false } [0x02] = some (.unregistered 0x02) ∧
    failure {} [0xAD, 0x34] = some (.truncated .ldaAbs) ∧
    failure {} [] = some .empty := by decide

/-- 30 R110: little-endian operands; a word that does not fit and an extension that is not registered fail. -/
theorem test_encode :
    encode {} .lda .absoluteX 0x1234 = .ok [0xBD, 0x34, 0x12] ∧ encode {} .bne .relative 0x0E = .ok [0xD0, 0x0E] ∧
    encode {} .test .immediate2 0x0183 = .ok [0x12, 0x83, 0x01] ∧ encode {} .nop .implied 0 = .ok [0xEA] ∧
    encode {} .lda .immediate 0x100 = .error .operandOutOfRange ∧
    encode {} .stx .absoluteY 0x1234 = .error .unregistered ∧
    encode { debugExt := false } .trap .immediate2 0 = .error .unregistered := by decide +kernel

/-- Table words: bit 0 is the least significant bit of the opcode byte; missing operand bytes are zero. -/
theorem test_table_words :
    decodeTableWord 8 0xA9 = some .ldaImm ∧ decodeTableWord 24 0x12346C = some .jmpInd ∧
    decodeTableWord 8 0x9E = none := by decide

/-- The placed word is the first instruction after reset. -/
theorem test_placed_word_runs :
    shows (step (State.reset.withFetchWord 16 0x42A9)) 0x42 0 0 0xFD 0x24 0x0002 9 none [] = true ∧
    shows (step (State.reset.withFetchWord 8 0x02)) 0 0 0 0xFD 0x24 0x0001 9 (some .halted) [] = true := by
  decide +kernel

/-! ## Bus traces of 95 section 3 -/

/-- 95 section 3.1 -/
theorem test_trace_page_crossing_reads :
    busOf (cpu 0 1 0 0xFD 0x24 0x0600 [(0x0600, [0xBD, 0xFF, 0x12]), (0x1300, [0x7F])]) =
      [r 0x0600 0xBD, r 0x0601 0xFF, r 0x0602 0x12, r 0x1200 0x00, r 0x1300 0x7F] ∧
    busOf (cpu 0 0 0x10 0xFD 0x24 0x0600
        [(0x0600, [0xB1, 0x40]), (0x0040, [0xF8, 0x20]), (0x2108, [0x5A])]) =
      [r 0x0600 0xB1, r 0x0601 0x40, r 0x0040 0xF8, r 0x0041 0x20, r 0x2008 0x00, r 0x2108 0x5A] := by
  decide +kernel

/-- 95 section 3.2 -/
theorem test_trace_modify :
    busOf (cpu 0 0 0 0xFD 0x24 0x0600 [(0x0600, [0xE6, 0x10]), (0x0010, [0xFF])]) =
      [r 0x0600 0xE6, r 0x0601 0x10, r 0x0010 0xFF, w 0x0010 0xFF, w 0x0010 0x00] ∧
    busOf (cpu 0 1 0 0xFD 0x24 0x0600 [(0x0600, [0xDE, 0x34, 0x12])]) =
      [r 0x0600 0xDE, r 0x0601 0x34, r 0x0602 0x12, r 0x1235 0x00, r 0x1235 0x00, w 0x1235 0x00,
        w 0x1235 0xFF] := by
  decide +kernel

/-- 95 section 3.3 -/
theorem test_trace_indexed_writes :
    busOf (cpu 0xAB 0x20 0 0xFD 0x24 0x0600 [(0x0600, [0x95, 0xF0])]) =
      [r 0x0600 0x95, r 0x0601 0xF0, r 0x00F0 0x00, w 0x0010 0xAB] ∧
    busOf (cpu 0xAB 1 0 0xFD 0x24 0x0600 [(0x0600, [0x9D, 0xFF, 0x12])]) =
      [r 0x0600 0x9D, r 0x0601 0xFF, r 0x0602 0x12, r 0x1200 0x00, w 0x1300 0xAB] := by
  decide +kernel

/-- 95 section 3.4 -/
theorem test_trace_branches :
    busOf (cpu 0 0 0 0xFD 0x26 0x0600 [(0x0600, [0xD0, 0x0E])]) = [r 0x0600 0xD0, r 0x0601 0x0E] ∧
    busOf (cpu 0 0 0 0xFD 0x24 0x0600 [(0x0600, [0xD0, 0x0E])]) =
      [r 0x0600 0xD0, r 0x0601 0x0E, r 0x0602 0x00] ∧
    busOf (cpu 0 0 0 0xFD 0x24 0x06F0 [(0x06F0, [0xD0, 0x1E])]) =
      [r 0x06F0 0xD0, r 0x06F1 0x1E, r 0x06F2 0x00, r 0x0610 0x00] ∧
    busOf (cpu 0 0 0 0xFD 0x24 0x0600 [(0x0600, [0x90, 0xEE])]) =
      [r 0x0600 0x90, r 0x0601 0xEE, r 0x0602 0x00, r 0x06F0 0x00] := by
  decide +kernel

/-- 95 section 3.5 -/
theorem test_trace_BRK :
    busOf (cpu 0 0 0 0xFF 0x20 0x0600 [(0x0600, [0x00]), (0xFFFE, [0x00, 0x90])]) =
      [r 0x0600 0x00, r 0x0601 0x00, w 0x01FF 0x06, w 0x01FE 0x02, w 0x01FD 0x30, r 0xFFFE 0x00,
        r 0xFFFF 0x90] := by
  decide +kernel

/-- 95 section 3.6: the IRQ of P4 and the handler's RTI. -/
theorem test_trace_IRQ_RTI :
    busOf { cpu 0 0 0 0xFF 0x20 0x0608 [(0xFFFE, [0x0C, 0x06])] with irqLines := [true] } =
      [r 0x0608 0x00, r 0x0608 0x00, w 0x01FF 0x06, w 0x01FE 0x08, w 0x01FD 0x20, r 0xFFFE 0x0C,
        r 0xFFFF 0x06] ∧
    busOf (cpu 0 0 0 0xFC 0x24 0x0614 [(0x0614, [0x40]), (0x01FD, [0x20, 0x08, 0x06])]) =
      [r 0x0614 0x40, r 0x0615 0x00, r 0x01FC 0x00, r 0x01FD 0x20, r 0x01FE 0x08, r 0x01FF 0x06] := by
  decide +kernel

/-- 95 section 3.7: no write, and every register of the file reinitialised. -/
theorem test_trace_reset :
    let s := { cpu 1 2 3 0xFD 0xCB 0x1234 [(0xFFFC, [0x00, 0xC0])] with resetPending := true }
    busOf s =
      [r 0x1234 0x00, r 0x1234 0x00, r 0x01FD 0x00, r 0x01FC 0x00, r 0x01FB 0x00, r 0xFFFC 0x00,
        r 0xFFFD 0xC0] ∧
    shows (step s) 0 0 0 0xFD 0x24 0xC000 7 none [] = true := by
  decide +kernel

/-- 95 section 3.8 -/
theorem test_trace_JSR_RTS :
    busOf (cpu 0 0 0 0xFF 0x24 0x0600 [(0x0600, [0x20, 0x34, 0x12])]) =
      [r 0x0600 0x20, r 0x0601 0x34, r 0x01FF 0x00, w 0x01FF 0x06, w 0x01FE 0x02, r 0x0602 0x12] ∧
    busOf (cpu 0 0 0 0xFD 0x24 0x1234 [(0x1234, [0x60]), (0x01FE, [0x02, 0x06])]) =
      [r 0x1234 0x60, r 0x1235 0x00, r 0x01FD 0x00, r 0x01FE 0x02, r 0x01FF 0x06, r 0x0602 0x00] := by
  decide +kernel

/-! ## Engine vectors of 95 section 4 -/

/-- E2: the capture is performed at tick 1, which also fetches the LDA. -/
theorem test_E2_capture :
    let t := ticks 2 { cpu 0x11 0 0 0xFD 0x24 0x0600 [(0x0600, [0xA9, 0x22])] with
      snapReq := some .capture }
    t.captured = some ⟨0x11, 0x00, 0x00, 0xFD, 0x0600, 0x24⟩ ∧ t.a = 0x22 ∧ t.cycles = 2 ∧
      t.snapReq = none := by
  decide +kernel

/-- E3: the restore costs no cycle; tick 1 fetches at the restored PC. -/
theorem test_E3_restore :
    shows
        (step { cpu 0 0 0 0xFD 0x24 0x0600 [(0x0800, [0xE8])] with
          snapReq := some (.restore ⟨0x11, 0x22, 0x33, 0xF0, 0x0800, 0x24⟩) })
      0x11 0x23 0x33 0xF0 0x24 0x0801 2 none [] = true := by
  decide +kernel

/-- E4: a capture posted inside `DEC $1234,X` waits for the quiescent point. -/
theorem test_E4_late_capture :
    let s := cpu 0 1 0 0xFD 0x24 0x0600 [(0x0600, [0xDE, 0x34, 0x12])]
    let t := ticks 5 { ticks 2 s with snapReq := some .capture }
    t.captured = none ∧ t.quiescent = true ∧
      (ticks 1 t).captured = some ⟨0x00, 0x01, 0x00, 0xFD, 0x0603, 0xA4⟩ := by
  decide +kernel

/-- Code that sets PC. -/
def jumpTo (addr : Word) : HandlerCode :=
  .seq (.set .pcHi (.const (hiByte addr))) (.set .pcLo (.const (loByte addr)))

/-- E5, E6: an intercept that returns false ends the tick without a bus access; one that returns true lets the
fetch proceed in the same tick. -/
theorem test_E5_E6_intercepts :
    let at0600 := fun proceed : CodeTest CpuReg =>
      (prog [0xA9, 0x22]).installIntercept 0x0600 ⟨jumpTo 0x0700, proceed⟩
    let t := ticks 1 (at0600 (.not .always))
    let u := ticks 1 (at0600 .always)
    t.bus = [] ∧ t.cycles = 1 ∧ t.pc = 0x0700 ∧ t.quiescent = true ∧
      u.bus = [r 0x0700 0x00] ∧ u.pc = 0x0701 := by
  decide +kernel

/-- E7: the IRQ precedes the intercept. -/
theorem test_E7_irq_before_intercept :
    let s := { (prog []).installIntercept 0x0600 ⟨.set .a (.const 0x55), .always⟩ with
      irqLines := [true], p := 0x20 }
    (nextOf (step s)).a = 0x00 ∧ (nextOf (step s)).svcKind = .irq ∧ (nextOf (step s)).cycles = 7 := by
  decide +kernel

/-- 20 R84, 70 R420: a handler reads memory and registers, chooses by them, posts a snapshot request, and answers
by the state it leaves. -/
theorem test_handler_reads_and_chooses :
    let load : HandlerCode := .set .a (.mem (.const 0x02) (.reg .x))
    let code : HandlerCode := .seq load (.ifElse (.less (.reg .a) (.const 0x10)) (.snapshot .capture) .skip)
    let run := fun x : Byte =>
      runHandler ⟨code, .eq (.reg .a) (.const 0x07)⟩
        { cpu 0 0 0 0xFD 0x24 0x0600 [(0x0200, [0x07, 0x70])] with x := x }
    (run 0).1.a = 0x07 ∧ (run 0).1.snapReq = some .capture ∧ (run 0).2 = true ∧
      (run 1).1.a = 0x70 ∧ (run 1).1.snapReq = none ∧ (run 1).2 = false ∧ (run 0).1.codeDraws = 1 := by
  decide +kernel

/-- E8: an opcode that is not registered faults in its T1; no later tick changes the state. -/
theorem test_E8_decode_error :
    let t := ticks 1 (prog [0xFF])
    t.fault = some (.decodeError 0xFF 0x0600) ∧ t.pc = 0x0601 ∧ t.cycles = 1 ∧ engineTick t = t ∧
      stopOf (step t) = some (.inl (.decodeError 0xFF 0x0600)) := by
  decide +kernel

/-- E9: byte 0x02 with `DEBUG_EXT` false. -/
theorem test_E9_no_debug :
    (ticks 1 { prog [0x02] with cfg := { debugExt := false } }).fault = some (.decodeError 0x02 0x0600) := by
  decide +kernel

/-- E10: a store to an unmapped address. -/
theorem test_E10_unmapped_write :
    let t := nextOf (step { prog [0x8D, 0x00, 0x80] with cfg := { unmapped := [(0x8000, 0xFFFF)] } })
    t.fault = some (.busUnmapped 0x8000 .write) ∧ t.cycles = 4 ∧
      t.bus = [r 0x0600 0x8D, r 0x0601 0x00, r 0x0602 0x80] := by
  decide +kernel

/-- E11: the pushes of a JSR to an unmapped page happen; the fault comes at the next fetch. -/
theorem test_E11_unmapped_jump :
    let t := ticks 6 { prog [0x20, 0x00, 0x80] with sp := 0xFF, cfg := { unmapped := [(0x8000, 0xFFFF)] } }
    t.fault = none ∧ t.memByte 0x01FF = 0x06 ∧ t.memByte 0x01FE = 0x02 ∧ t.sp = 0xFD ∧ t.pc = 0x8000 ∧
      (ticks 1 t).fault = some (.busUnmapped 0x8000 .read) := by
  decide +kernel

/-- E12: a reset requested in tick 2 of a 4-cycle LDA begins at tick 5. -/
theorem test_E12_reset_waits :
    let t := ticks 2 (ticks 2 (prog [0xAD, 0x34, 0x12])).requestReset
    t.quiescent = true ∧ t.cycles = 4 ∧ t.pc = 0x0603 ∧ (ticks 1 t).svcKind = .reset ∧
      (ticks 1 t).servicing = true := by
  decide +kernel

/-- E13, E20: HALT ends in its second tick; later ticks and a reset request change nothing. -/
theorem test_E13_E20_halt :
    let t := ticks 2 (prog [0x02])
    t.halted = some .halted ∧ t.cycles = 2 ∧ engineTick t = t ∧
      engineTick t.requestReset = t.requestReset ∧ nextOf (step t) = t ∧
      isNext (step t) = true := by
  decide +kernel

/-- E14, E15: an NMI line that stays high is one request, and so are two calls of `request_nmi`. -/
theorem test_E14_E15_one_nmi :
    let held := nextOf (step { prog [] with nmiLines := [true] })
    let twice := nextOf (step (prog []).requestNmi.requestNmi)
    held.svcKind = .nmi ∧ held.nothingPending = true ∧ twice.svcKind = .nmi ∧
      twice.nothingPending = true := by
  decide +kernel

/-- E16: the reset sequence clears the NMI latch. -/
theorem test_E16_reset_clears_nmi :
    let t := nextOf (step (prog []).requestReset.requestNmi)
    t.svcKind = .reset ∧ t.nmiLatch = false ∧ t.resetPending = false ∧ t.cycles = 7 := by
  decide +kernel

/-- E17: CLI completes, and the IRQ is taken at the next quiescent point. -/
theorem test_E17_cli_then_irq :
    let t := nextOf (step { prog [0x58, 0xEA] with irqLines := [true] })
    t.pc = 0x0601 ∧ t.p = 0x20 ∧ (nextOf (step t)).svcKind = .irq ∧
      (nextOf (step t)).memByte 0x01FC = 0x01 := by
  decide +kernel

/-- E18: an IRQ asserted with P.I = 0 is taken before SEI runs. -/
theorem test_E18_irq_before_sei :
    let t := nextOf (step { prog [0x78] with irqLines := [true], p := 0x20 })
    t.cycles = 7 ∧ t.memByte 0x01FD = 0x06 ∧ t.memByte 0x01FC = 0x00 ∧ t.memByte 0x01FB = 0x20 := by
  decide +kernel

/-- E19: a 7-cycle instruction leaves 6 micro-ops after its T1. -/
theorem test_E19_queue_depth : (ticks 1 (prog [0x00])).queue.length = 6 := by decide +kernel

/-- 10 R41, R42, 40 R132: the check clears the request it takes before T1's bus access, so a request that the
access's side effect posts stays; of an NMI request posted in reset's T1 the table's own row clears the latch. -/
theorem test_request_during_T1 :
    let at0600 := fun onRead : Action =>
      { prog [] with devices := [{ first := 0x0600, last := 0x0600, onRead := onRead }] }
    (ticks 1 (at0600 .requestReset).requestReset).resetPending = true ∧
    (ticks 1 (at0600 .requestNmi).requestNmi).nmiLatch = true ∧
    (ticks 1 (at0600 .requestNmi).requestReset).nmiLatch = false ∧
    (ticks 1 (at0600 .skip).requestReset).resetPending = false := by
  decide +kernel

/-- 20 R71, 70 R420: a device's reaction to a write is handed the address and the byte. -/
theorem test_device_takes_the_byte :
    let s := { prog [0x8D, 0x34, 0x12] with
      a := 0x42
      devices := [{ first := 0x1200, last := 0x12FF, onWrite := .poke (.const 0xC0) .addrLo .given }] }
    (nextOf (step s)).memByte 0xC034 = 0x42 ∧ (nextOf (step s)).memByte 0x1234 = 0x00 := by
  decide +kernel

/-! ## Scheduler vectors of 95 section 5 -/

/-- An action that sets a byte of memory. -/
def pokeAt (addr : Word) (v : Byte) : Action :=
  .poke (.const (hiByte addr)) (.const (loByte addr)) (.const v)

/-- NOPs with a list of tasks, none of them live. -/
def tasked (phase : SchedPhase) (actions : List Action) : State :=
  { prog [0xEA, 0xEA, 0xEA, 0xEA, 0xEA] with
    cfg := { phase := phase }
    sched := { tasks := actions.map fun a => { action := a } } }

/-- The byte at 0x0200, which a fired task has set. -/
def mark (s : State) : Byte := s.memByte 0x0200

/-- S1, S2: a delay of 1 fires in tick 1 in both phases. -/
theorem test_S1_S2 :
    mark (ticks 1 ((tasked .beforeCpu [pokeAt 0x0200 1]).schedule ⟨0⟩ 1)) = 1 ∧
    mark (ticks 1 ((tasked .afterCpu [pokeAt 0x0200 1]).schedule ⟨0⟩ 1)) = 1 := by
  decide +kernel

/-- S3, S7: a delay of 3 fires in tick 3; cancelled before it, never. -/
theorem test_S3_S7 :
    let s := (tasked .beforeCpu [pokeAt 0x0200 1]).schedule ⟨0⟩ 3
    mark (ticks 2 s) = 0 ∧ mark (ticks 3 s) = 1 ∧ mark (ticks 3 ((ticks 2 s).unschedule ⟨0⟩)) = 0 := by
  decide +kernel

/-- S4, S5: scheduled by the CPU step of tick 1 (a device's reaction to a write), a delay of 3 fires in tick 4
before the CPU step and in tick 3 after it. -/
theorem test_S4_S5 :
    let s := fun phase : SchedPhase =>
      { tasked phase [pokeAt 0x0200 1] with
        queue := [.writeZeroPage .sta]
        devices := [{ first := 0x00, last := 0x00, onWrite := .schedule ⟨0⟩ 3 }] }
    mark (ticks 3 (s .beforeCpu)) = 0 ∧ mark (ticks 4 (s .beforeCpu)) = 1 ∧
      mark (ticks 2 (s .afterCpu)) = 0 ∧ mark (ticks 3 (s .afterCpu)) = 1 := by
  decide +kernel

/-- S9, S10: scheduled anew before tick 2, the task fires in tick 6. -/
theorem test_S9_S10 :
    let s := ticks 1 ((tasked .beforeCpu [pokeAt 0x0200 1]).schedule ⟨0⟩ 3)
    mark (ticks 4 (s.reschedule ⟨0⟩ 5)) = 0 ∧ mark (ticks 5 (s.reschedule ⟨0⟩ 5)) = 1 ∧
      ticks 5 (s.schedule ⟨0⟩ 5) = ticks 5 (s.reschedule ⟨0⟩ 5) := by
  decide +kernel

/-- S11, S12, S13: ties fire in registration order, also where the lower handle is registered later; a cancelled
task does not fire, one scheduled anew fires in the next pass. -/
theorem test_S11_S12_S13 :
    let s := fun first : Action =>
      (ticks 1
        ((tasked .beforeCpu [.seq (pokeAt 0x0200 1) first, pokeAt 0x0200 2]).schedule ⟨0⟩ 2)).schedule ⟨1⟩ 1
    let u := (ticks 1 ((tasked .beforeCpu [pokeAt 0x0200 1, pokeAt 0x0200 2]).schedule ⟨1⟩ 2)).schedule ⟨0⟩ 1
    mark (ticks 1 (s .skip)) = 2 ∧ mark (ticks 1 u) = 1 ∧ mark (ticks 2 (s (.unschedule ⟨1⟩))) = 1 ∧
      mark (ticks 1 (s (.schedule ⟨1⟩ 1))) = 1 ∧ mark (ticks 2 (s (.schedule ⟨1⟩ 1))) = 2 := by
  decide +kernel

/-- S16, S17: a delay of 0 is a fault; inside tick 2's pass it stops that tick before its CPU step. -/
theorem test_S16_S17 :
    let t := ticks 2 ((tasked .beforeCpu [.schedule ⟨0⟩ 0]).schedule ⟨0⟩ 2)
    ((tasked .beforeCpu [.skip]).schedule ⟨0⟩ 0).fault = some (.schedulerBadDelay ⟨0⟩ 0) ∧
      t.fault = some (.schedulerBadDelay ⟨0⟩ 0) ∧ t.cycles = 2 ∧ t.pc = 0x0601 ∧
      t.queue = [.implied .nop] := by
  decide +kernel

/-- S19: a reset sequence does not touch the scheduler. -/
theorem test_S19 :
    mark (ticks 3 ((tasked .beforeCpu [pokeAt 0x0200 1]).schedule ⟨0⟩ 3).requestReset) = 1 := by
  decide +kernel

/-- 60 R361: `new_task` returns the handle of a task that is not live. -/
theorem test_new_task_returns_its_handle :
    let r := (tasked .beforeCpu [.skip]).newTask (pokeAt 0x0200 1)
    r.2.sched.tasks[r.1.index]? = some { action := pokeAt 0x0200 1, live := false } ∧
      mark (ticks 1 (r.2.schedule r.1 1)) = 1 ∧ mark (ticks 1 r.2) = 0 := by
  decide +kernel

/-- 70 R420: a free action is the action drawn for its run. -/
theorem test_free_action_is_drawn :
    runAction {} (.free 3) State.reset =
      (State.reset.unlessFaulted (((Config.freeAction 0 3).run (fun _ t => t) {} State.reset).drawn)) := rfl

/-! ## Runs and their outcomes (70 R415, R416) -/

/-- The first outcome counts: at the success address, before the HALT there; HALT; TRAP; the host's stop, at once
and one cycle late. -/
theorem test_run_outcomes :
    let never : State → Bool := fun _ => false
    let atTwo : State → Bool := fun s => decide (s.cycles = 2)
    (runOutcome (some 0x0600) never false 9 (prog [0x02])).1 = .reachedSuccess ∧
    (runOutcome (some 0x0601) never false 9 (prog [0x02])).1 = .haltedWith .halted ∧
    (runOutcome none never false 9 (prog [0x22])).1 = .haltedWith .trapped ∧
    (runOutcome none never false 9 (prog [0x03])).1 = .faulted (.decodeError 0x03 0x0600) ∧
    (runOutcome none never false 9 (prog [0x4C, 0x00, 0x06])).1 = .running ∧
    ∀ e ∈ [(false, 2), (true, 3)],
      let stopped := runOutcome none atTwo e.1 9 (prog [0x4C, 0x00, 0x06])
      stopped.1 = .stoppedByHost ∧ stopped.2.cycles = e.2 := by
  decide +kernel

/-- A tick whose CPU step halts and whose pass faults ends faulted (log 20). -/
theorem test_halt_and_fault_in_one_tick :
    let s := { (tasked .afterCpu [.schedule ⟨0⟩ 0]).schedule ⟨0⟩ 2 with mem := placed [(0x0600, [0x02])] }
    let t := ticks 2 s
    t.halted = some .halted ∧ t.fault = some (.schedulerBadDelay ⟨0⟩ 0) ∧ t.endedWell none = false ∧
      stopOf (step t) = some (.inl (.schedulerBadDelay ⟨0⟩ 0)) := by
  decide +kernel

/-! ## The pacing clock (60 R371 to R376) -/

/-- Readings 10 ns apart. -/
def wall : Wall := ⟨.rat 10, .rat 20, .rat 30, .rat 40, .rat 50, ⟨.rat 60, .rat 70⟩⟩

/-- Every name of a real stands for √2. -/
noncomputable def named : Nat → ℝ := fun _ => √2

/-- 00 R8, 60 R372: any positive real is a rate, an irrational one too, and one cycle of it takes 10^9 / rate
nanoseconds. -/
theorem test_any_positive_real_is_a_rate (x : ℝ) (hx : 0 < x) (s : State) :
    let ρ : Nat → ℝ := fun _ => x
    ∃ t, setRate ρ (.real 0) true ⟨.rat 0, .rat 0⟩ s = .next t ∧ t.clock.rate.value ρ = x ∧
      t.clock.nominal.value ρ = 1000000000 / x := by
  refine ⟨_, if_pos (by simpa using hx), rfl, ?_⟩
  simp [Clock.resync_eq]

/-- The listeners on both sides of the engine are handed the elapsed wall time, and `last_tick` is the second
reading. -/
theorem test_listeners_get_the_elapsed_time :
    let late : Action := .ifElse (.elapsedAtLeast 15) (pokeAt 0x0200 1) (pokeAt 0x0200 2)
    let s := fun last : Rat =>
      { prog [0xEA] with
        clock := { lastTick := .rat last, before := [⟨late, .skip⟩], after := [⟨.requestNmi, .skip⟩] } }
    let t := fun last : Rat => nextOf (pacedCycle named wall (s last))
    mark (t 5) = 1 ∧ mark (t 6) = 2 ∧ (t 5).nmiLatch = true ∧ (t 5).clock.lastTick = .rat 30 ∧
      (t 5).cycles = 1 := by
  decide +kernel

/-- A pause seen by `set_paused(true)` anew, by an iteration and by `set_paused(false)` is added to `paused_ns`,
and the resync takes its two readings. -/
theorem test_pauses_are_counted :
    let told : Listener := ⟨.skip, .ifElse .paused .requestNmi .skip⟩
    let s := setPaused named true (.rat 100) ⟨.rat 0, .rat 0⟩ { prog [] with clock := { before := [told] } }
    let t := setPaused named true (.rat 150) ⟨.rat 0, .rat 0⟩ s
    let u := nextOf (pacedCycle named { wall with waited := .rat 170 } t)
    let v := setPaused named false (.rat 200) ⟨.rat 210, .rat 215⟩ u
    s.clock.pausedNs = .rat 0 ∧ s.nmiLatch = true ∧ t.clock.pausedNs = .rat 50 ∧ u.clock.pausedNs = .rat 70 ∧
      u.cycles = 0 ∧ (u.clock.now named (.rat 200)).activeNs = .rat 100 ∧ v.clock.paused = false ∧
      v.clock.pausedNs = .rat 0 ∧ v.clock.tResync = .rat 210 ∧ v.clock.deadline = .rat 715 := by
  decide +kernel

/-! ## Assembler syntax and disassembly (30 R113, R115) -/

/-- 95 section 6: one instruction per mode, written out and read back. -/
theorem test_assemble_each_mode :
    ∀ e ∈ [("NOP", [0xEA]), ("ASL A", [0x0A]), ("LDA #$42", [0xA9, 0x42]), ("LDA $10", [0xA5, 0x10]),
        ("LDA $10,X", [0xB5, 0x10]), ("LDX $10,Y", [0xB6, 0x10]), ("LDA $1234", [0xAD, 0x34, 0x12]),
        ("LDA $1234,X", [0xBD, 0x34, 0x12]), ("LDA $1234,Y", [0xB9, 0x34, 0x12]),
        ("JMP ($1234)", [0x6C, 0x34, 0x12]), ("LDA ($10,X)", [0xA1, 0x10]), ("LDA ($10),Y", [0xB1, 0x10]),
        ("BNE $0610", [0xD0, 0x0E]), ("TEST #$83,#$01", [0x12, 0x83, 0x01])],
      assemble {} e.1 0x0600 = some (e.2.map (BitVec.ofNat 8)) ∧
        (readsAs [e.2]).map (fun x => disassemble x.1 x.2 0x0600) = [e.1] := by
  decide +kernel

/-- 95 section 6: branch offsets, the largest in both directions, out of range, and the 16-bit wrap. -/
theorem test_branch_offsets :
    branchOffset 0x0600 0x0602 = some 0x00 ∧ branchOffset 0x0600 0x0600 = some 0xFE ∧
    branchOffset 0x0600 0x0682 = none ∧ branchOffset 0x0600 0x0681 = some 0x7F ∧
    branchOffset 0x0600 0x0582 = some 0x80 ∧ branchOffset 0xFFF0 0x0010 = some 0x1E ∧
    assemble {} "BNE $0682" 0x0600 = none := by
  decide +kernel

/-- The syntax of no instruction: a mode the mnemonic has not, a lower-case digit, a missing operand. -/
theorem test_assemble_refuses :
    ∀ text ∈ ["STX $1234,Y", "BIT #$01", "LDA #$4b", "LDA", "NOP $10", "XYZ"],
      assemble {} text 0x0600 = none := by
  decide +kernel

/-! ## Witnesses: states and operands that meet the hypotheses of each obligation together -/

/-- A state in T1, PC behind the opcode, with operand bytes 0x34 and 0x12. -/
def inT1 (p : Byte) : State := { prog [0x34, 0x12] with p := p }

theorem witness_RegistryRoundTrip :
    Config.wellFormed {} ∧ decodeOpcode {} 0xA9 = some .ldaImm ∧ decodeOpcode {} 0x03 = none ∧
      keyOf {} .lda .immediate = some .ldaImm := by
  decide +kernel

/-- Each clause at the largest and the first refused operand, and at pairs that are unregistered: an empty cell of 30 R104
and a debug extension. -/
theorem witness_EncodeDecodeRoundTrip :
    Instr.wellFormed {} .ldaImm 0xFF ∧ Instr.wellFormed {} .jmpAbs 0xFFFF ∧
    Instr.wellFormed {} .trap 0xFFFF ∧ Instr.wellFormed {} .tax 0 ∧
    (∀ i : Instr, i.registered {} → ¬(i.mnemonic = .stx ∧ i.mode = .absoluteY)) ∧
    (∀ i : Instr, i.registered { debugExt := false } → ¬(i.mnemonic = .halt ∧ i.mode = .implied)) ∧
    (Instr.registered {} .ldaImm = true ∧ Instr.operandFits .ldaImm 0x100 = false) ∧
    (Instr.registered {} .jmpAbs = true ∧ Instr.operandFits .jmpAbs 0x10000 = false) ∧
    (Instr.registered {} .tax = true ∧ Instr.operandFits .tax 1 = false) := by
  refine ⟨by decide, by decide, by decide, by decide, ?_, ?_, by decide, by decide, by decide⟩ <;>
    intro i <;> cases i <;> decide

/-- The last case has its opcode at 0xFFFF and its operand at 0x0000. -/
theorem witness_StepRunsTheDecodedInstruction :
    ∀ s ∈ [prog [0xA9, 0x42], cpu 0 0 0 0xFD 0x24 0xFFFF [(0xFFFF, [0xA9]), (0x0000, [0x42])]],
      s.atRest ∧ s.nothingPending ∧
        (decode s.cfg [s.memByte s.pc, s.memByte (s.pc + 1#16), s.memByte (s.pc + 2#16)]).toOption =
          some (.ldaImm, 0x42, [0x00]) := by
  decide +kernel

/-- A running engine at rest and one inside BRK; a configuration that cannot be built. -/
theorem witness_StepIsEngineTicks :
    (State.reset.cfg.wellFormed ∧ State.reset.stopped = false ∧
      (ticks 3 (prog [0x00])).cfg.wellFormed ∧ (ticks 3 (prog [0x00])).stopped = false) ∧
    { State.reset with cfg := { opcHalt := 0xEA } }.cfg.wellFormed = false := by
  decide +kernel

/-- One state at rest, one inside BRK, and one inside an IRQ's service. -/
theorem witness_StepEndsAtAQuiescentPoint :
    ∀ s ∈ [prog [0xEA], ticks 3 (prog [0x00]), ticks 2 { prog [] with irqLines := [true], p := 0x20 }],
      s.queueInv ∧ isNext (step s) := by
  decide +kernel

theorem witness_QueueInvariantKept :
    ∀ s ∈ [prog [0xEA], ticks 3 (prog [0x00]), ticks 2 { prog [] with irqLines := [true], p := 0x20 }],
      16 ≤ s.cfg.q ∧ s.queueInv ∧ isNext (step s) := by
  decide +kernel

/-- A store of a byte and a store of the byte that an unlisted address reads as. -/
theorem witness_MemoryFormKept :
    ∀ s ∈ [{ prog [0x8D, 0xFF, 0xFF] with a := 0x42 }, prog [0x8D, 0x00, 0x06]],
      s.mem.wf ∧ isNext (step s) := by
  decide +kernel

theorem witness_StepKeepsTheEnvironment : isNext (step (prog [0x68])) := by decide +kernel

/-- A running, a halted and a faulted engine. -/
theorem witness_TickCountsOneCycle :
    (State.reset.cfg.wellFormed ∧ State.reset.halted = none ∧ State.reset.fault = none) ∧
    { State.reset with halted := some .trapped }.halted ≠ none ∧
    { State.reset with fault := some .queueOverflow }.fault ≠ none := by
  decide +kernel

theorem witness_ResetSequence :
    let inside := (ticks 3 (prog [0x00])).requestReset
    let s := { (prog [0xEA]).requestReset.requestNmi with irqLines := [true], p := 0x20 }
    (s.atRest ∧ s.snapReq = none ∧ s.resetPending) ∧
    (inside.stopped = false ∧ inside.quiescent = false ∧ inside.resetPending) ∧
    { s with halted := some .halted }.stopped ∧
    { s with fault := some (.decodeError 0x03 0x0600) }.stopped := by
  decide +kernel

theorem witness_PowerOnRunsReset :
    (prog [0xEA]).plain ∧ (prog [0xEA]).cfg.wellFormed ∧ { prog [] with p := 0xFF }.plain := by
  decide +kernel

/-- NMI by the latch and by an edge, with an IRQ beside it; an IRQ alone. -/
theorem witness_InterruptSequences :
    (∀ s ∈ [(prog [0xEA]).requestNmi,
        { prog [0xEA] with nmiLines := [true], irqLines := [true], p := 0x20 }],
      s.atRest ∧ s.snapReq = none ∧ s.resetPending = false ∧ s.nmiRequested) ∧
    let s := { prog [0xEA] with irqLines := [false, true], p := 0x20, sp := 0x00 }
    s.atRest ∧ s.snapReq = none ∧ s.resetPending = false ∧ s.nmiRequested = false ∧ s.irqRequested := by
  decide +kernel

theorem witness_SnapshotsCostNoCycle :
    let image : Image := ⟨0x11, 0x22, 0x33, 0xF0, 0x0800, 0xFF⟩
    let captures := (prog [0xEA]).postSnapshot .capture
    let restores := (prog [0xEA]).postSnapshot (.restore image)
    (captures.atRest ∧ captures.snapReq = some .capture) ∧
    restores.atRest ∧ restores.snapReq = some (.restore image) := by
  decide +kernel

/-- A handler that answers false, and one that answers true, by its test of memory, with an instruction at the PC it
sets. -/
theorem witness_InterceptAtFetch :
    let stops : Handler := ⟨jumpTo 0x0700, .not .always⟩
    let goes : Handler :=
      ⟨.seq (jumpTo 0x0700) (.act (pokeAt 0x0700 0xE8)), .eq (.mem (.const 0x07) (.reg .pcLo)) (.const 0xE8)⟩
    (∀ h ∈ [stops, goes],
      let s := (prog []).installIntercept 0x0600 h
      s.atRest ∧ s.snapReq = none ∧ s.resetPending = false ∧ s.nmiRequested = false ∧
        s.irqRequested = false ∧ s.handlerAt s.pc = some h ∧ s.cfg.phase = .beforeCpu) ∧
    (runHandler stops ((prog []).installIntercept 0x0600 stops).polled).2 = false ∧
    let r := runHandler goes ((prog []).installIntercept 0x0600 goes).polled
    r.2 = true ∧ r.1.plain ∧ r.1.fault = none ∧ decodeOpcode r.1.cfg (r.1.memByte r.1.pc) = some .inx := by
  decide +kernel

/-- Also with the opcode at 0xFFFF. -/
theorem witness_UnregisteredOpcodeFaults :
    ∀ s ∈ [prog [0x03], { prog [0x02] with cfg := { debugExt := false } },
        cpu 0 0 0 0xFD 0x24 0xFFFF [(0xFFFF, [0xFF])]],
      s.atRest ∧ s.nothingPending ∧ decodeOpcode s.cfg (s.memByte s.pc) = none := by
  decide +kernel

/-- A read and a write at the queue's head, the second with a micro-op behind it, and a fetch, at the first and the
last unmapped address. -/
theorem witness_UnmappedAccessFaults :
    let holed := { prog [0xEA] with
      cfg := { unmapped := [(0x8000, 0xFFFF)] }, tmp := { lo := 0x00, hi := 0x80 } }
    let reads := { holed with queue := [.readAbsolute .lda] }
    let writes := { holed with queue := [.writeBackAbsolute, .modifyAbsolute .inc] }
    let fetchesHole := { holed with pc := 0xFFFF, nmiPrev := true }
    (∀ s ∈ [reads, writes],
      s.cfg.wellFormed ∧ s.stopped = false ∧ (∀ t ∈ s.sched.tasks, t.live = false) ∧
        s.mapped 0x8000 = false) ∧
    (reads.queue = [.readAbsolute .lda] ∧ (MicroOp.readAbsolute .lda).access reads = .read 0x8000) ∧
    (writes.queue = .writeBackAbsolute :: [.modifyAbsolute .inc] ∧
      MicroOp.writeBackAbsolute.access writes = .write 0x8000 0x00) ∧
    fetchesHole.cfg.wellFormed ∧ fetchesHole.stopped = false ∧
      (∀ t ∈ fetchesHole.sched.tasks, t.live = false) ∧ fetchesHole.mapped 0xFFFF = false ∧
      fetchesHole.quiescent ∧ fetchesHole.nothingPending ∧ fetchesHole.pc = 0xFFFF := by
  decide +kernel

theorem witness_InstructionsRaiseBusFaultsOnly :
    let s := { inT1 0x24 with cfg := { unmapped := [(0x1234, 0x1234)] } }
    (s.stopped = false ∧ s.queue = [] ∧ 16 ≤ s.cfg.q ∧ s.devices = [] ∧
      ∀ u ∈ s.sched.tasks, u.live = false) ∧
    isNext (exec .staAbs s) ∧
    (nextOf (exec .staAbs s)).fault = some (.busUnmapped 0x1234 .write) := by
  decide +kernel

/-- Class I, and the accumulator form of class M. -/
theorem witness_ImpliedAndAccumulatorCycles :
    (prog [0xE8]).fetches .inx ∧ opClass .inx = .implied .inx ∧
    (prog [0x6A]).fetches .rorAcc ∧ opClass .rorAcc = .modify .ror ∧ Instr.mode .rorAcc = .accumulator := by
  unfold State.fetches; decide +kernel

theorem witness_ReadCycles :
    ∀ e ∈ [([0xA9], Instr.ldaImm, ReadOp.lda, Mode.immediate), ([0xA5], .ldaZp, .lda, .zeroPage),
        ([0x6D], .adcAbs, .adc, .absolute), ([0xB5], .ldaZpx, .lda, .zeroPageX),
        ([0xB6], .ldxZpy, .ldx, .zeroPageY), ([0xA1, 0xFF], .ldaIzx, .lda, .indirectX)],
      (prog e.1).fetches e.2.1 ∧ opClass e.2.1 = .read e.2.2.1 ∧ e.2.1.mode = e.2.2.2 := by
  unfold State.fetches; decide +kernel

/-- Each mode with an index addition that carries (0xFF + 1) and one that does not (0xFE + 1). -/
theorem witness_PageCrossingReadCycles :
    ∀ e ∈ [([0xBD, 0xFF], Instr.ldaAbx, Mode.absoluteX), ([0xB9, 0xFF], .ldaAby, .absoluteY),
        ([0xBD, 0xFE], .ldaAbx, .absoluteX), ([0xB9, 0xFE], .ldaAby, .absoluteY),
        ([0xB1, 0xFF], .ldaIzy, .indirectY)],
      let s := { prog e.1 with x := 1, y := 1 }
      s.fetches e.2.1 ∧ opClass e.2.1 = .read .lda ∧ e.2.1.mode = e.2.2 := by
  unfold State.fetches; decide +kernel

theorem witness_WriteCycles :
    ∀ e ∈ [([0x85], Instr.staZp, WriteOp.sta, Mode.zeroPage), ([0x95, 0xFF], .staZpx, .sta, .zeroPageX),
        ([0x96, 0xFF], .stxZpy, .stx, .zeroPageY), ([0x8C], .styAbs, .sty, .absolute),
        ([0x9D, 0xFF], .staAbx, .sta, .absoluteX), ([0x99, 0xFE], .staAby, .sta, .absoluteY),
        ([0x81, 0xFF], .staIzx, .sta, .indirectX), ([0x91, 0xFF], .staIzy, .sta, .indirectY)],
      let s := { prog e.1 with x := 1, y := 1 }
      s.fetches e.2.1 ∧ opClass e.2.1 = .write e.2.2.1 ∧ e.2.1.mode = e.2.2.2 := by
  unfold State.fetches; decide +kernel

theorem witness_ModifyCycles :
    ∀ e ∈ [([0x06], Instr.aslZp, ModifyOp.asl, Mode.zeroPage), ([0xF6, 0xFF], .incZpx, .inc, .zeroPageX),
        ([0x6E], .rorAbs, .ror, .absolute), ([0xDE, 0xFF], .decAbx, .dec, .absoluteX),
        ([0xDE, 0xFE], .decAbx, .dec, .absoluteX)],
      let s := { prog e.1 with x := 1 }
      s.fetches e.2.1 ∧ opClass e.2.1 = .modify e.2.2.1 ∧ e.2.1.mode = e.2.2.2 := by
  unfold State.fetches; decide +kernel

/-- Not taken, taken in the page, taken to another page. -/
theorem witness_BranchCycles :
    ∀ e ∈ [([0xF0, 0x0E], Instr.beq, Condition.equal, 0x24), ([0xD0, 0x0E], .bne, .notEqual, 0x24),
        ([0x90, 0xEE], .bcc, .carryClear, 0x24)],
      let s := { prog e.1 with p := BitVec.ofNat 8 e.2.2.2 }
      s.fetches e.2.1 ∧ opClass e.2.1 = .branch e.2.2.1 := by
  unfold State.fetches; decide +kernel

/-- One instruction of each of the four classes, the class R one in a page-crossing mode. -/
theorem witness_CycleCounts :
    let crossing := { prog [0xBD, 0xFF] with x := 1 }
    (prog [0xAA]).fetches .tax ∧ opClass .tax = .implied .tax ∧
    crossing.fetches .ldaAbx ∧ opClass .ldaAbx = .read .lda ∧
    (prog [0x85]).fetches .staZp ∧ opClass .staZp = .write .sta ∧
    (prog [0xE6]).fetches .incZp ∧ opClass .incZp = .modify .inc := by
  unfold State.fetches; decide +kernel

/-- The hypothesis of the result statements, LoadsWriteTheRegister to FlagInstructionsWriteOneFlag,
DebugExtensionsHalt and the frames: a running engine in T1, with every flag clear, set, and D alone set. -/
theorem witness_ready :
    State.reset.ready ∧ (inT1 0x00).ready ∧ (inT1 0xFF).ready ∧ (inT1 0x08).ready := by
  decide +kernel

theorem witness_LoadsWriteTheRegister : (inT1 0x24).ready := by decide +kernel

theorem witness_StoresWriteMemory : { inT1 0x24 with a := 0xFF, x := 1 }.ready := by decide +kernel

theorem witness_TransfersMoveTheRegister : { inT1 0x24 with x := 0x80 }.ready := by decide +kernel

theorem witness_AdcBinaryAdds :
    Instr.adcImm ∈ [Instr.adcImm, .adcZp, .adcZpx, .adcAbs, .adcAbx, .adcAby, .adcIzx, .adcIzy] ∧
    (inT1 0x25).ready ∧ getFlag (inT1 0x25).p .d = false := by
  decide +kernel

theorem witness_AdcDecimalAdds :
    Instr.adcIzy ∈ [Instr.adcImm, .adcZp, .adcZpx, .adcAbs, .adcAbx, .adcAby, .adcIzx, .adcIzy] ∧
    (inT1 0x2D).ready ∧ getFlag (inT1 0x2D).p .d = true := by
  decide +kernel

/-- With D clear and with D set. -/
theorem witness_SbcSubtracts :
    Instr.sbcImm ∈ [Instr.sbcImm, .sbcZp, .sbcZpx, .sbcAbs, .sbcAbx, .sbcAby, .sbcIzx, .sbcIzy] ∧
    (inT1 0x24).ready ∧ (inT1 0x2D).ready := by
  decide +kernel

theorem witness_CarryAndOverflowDerivation :
    getFlag (adcBinary 0x7F 0x01 0x00).2 .v = true ∧ getFlag (adcBinary 0x7F 0x00 0x00).2 .v = false ∧
    getFlag (sbcBinary 0x80 0x01 0x01).2 .v = true ∧ getFlag (sbcBinary 0x81 0x01 0x01).2 .v = false := by
  decide +kernel

theorem witness_DecimalModeIsDecimal : (99 < 100 ∧ 0 < 100) ∧ getFlag 0x09 .d = true := by decide +kernel

theorem witness_LogicCombinesWithA : { inT1 0x24 with a := 0xF0 }.ready := by decide +kernel

theorem witness_ComparesWriteFlagsOnly : { inT1 0x24 with a := 0x34, x := 0x33, y := 0x35 }.ready := by
  decide +kernel

theorem witness_ShiftsAndRotates : { inT1 0x25 with a := 0x81 }.ready := by decide +kernel

theorem witness_IncrementsAndDecrements : { inT1 0x24 with x := 0xFF, y := 0x00 }.ready := by decide +kernel

/-- S at both ends of the stack page. -/
theorem witness_StackInstructions :
    { inT1 0xFF with sp := 0x00 }.ready ∧ { inT1 0x00 with sp := 0xFF }.ready := by
  decide +kernel

/-- JMP with its pointer at the end of a page. -/
theorem witness_JumpsSetPc : (prog [0xFF, 0x30]).ready := by decide +kernel

theorem witness_JsrAndRts : { inT1 0x24 with sp := 0x00 }.ready ∧ { inT1 0x24 with sp := 0xFF }.ready := by
  decide +kernel

theorem witness_RtiRestoresStatusAndPc : { inT1 0x24 with sp := 0xFE }.ready := by decide +kernel

theorem witness_BrkEntersTheHandler : { inT1 0x24 with sp := 0x01 }.ready := by decide +kernel

/-- Every flag clear, so that half the branches are taken, and every flag set. -/
theorem witness_BranchesTestTheirFlag : (inT1 0x00).ready ∧ (inT1 0xFF).ready := by decide +kernel

/-- The state that the JSR left is one in which the RTS can run; S wraps in the pushes. -/
theorem witness_RtsReturnsFromJsr :
    let s := { inT1 0x24 with sp := 0x00 }
    let t := nextOf (exec .jsr s)
    s.ready ∧ exec .jsr s = .next t ∧ t.ready ∧ t.sp = t.sp ∧
      ∀ b : Byte, t.memByte (stackAddr b) = t.memByte (stackAddr b) :=
  ⟨by decide +kernel, eq_next (by decide +kernel), by decide +kernel, rfl, fun _ => rfl⟩

/-- The state that BRK left, and those that an NMI and an IRQ left, are ones in which the RTI can run. -/
theorem witness_RtiReturnsFromEveryEntry :
    let brk := inT1 0xC3
    let t := nextOf (exec .brk brk)
    (brk.ready ∧ exec .brk brk = .next t ∧ t.ready) ∧
    ∀ s ∈ [(prog [0xEA]).requestNmi, { prog [0xEA] with irqLines := [true], p := 0xF3 }],
      let t := nextOf (step s)
      s.atRest ∧ s.snapReq = none ∧ s.resetPending = false ∧ (s.nmiRequested ∨ s.irqRequested) ∧
        isNext (step s) ∧ t.ready :=
  ⟨⟨by decide +kernel, eq_next (by decide +kernel), by decide +kernel⟩, by decide +kernel⟩

theorem witness_FlagInstructionsWriteOneFlag : (inT1 0x00).ready ∧ (inT1 0xFF).ready := by decide +kernel

/-- mask 0x34, expect 0x12: P = 0x12 passes TEST, P = 0x24 does not. -/
theorem witness_DebugExtensionsHalt :
    (∀ s ∈ [inT1 0x12, inT1 0x24], s.ready) ∧
    ((inT1 0x12).p &&& 0x34 = 0x12 &&& 0x34) ∧ ¬ ((inT1 0x24).p &&& 0x34 = 0x12 &&& 0x34) := by
  decide +kernel

/-- A store, a push and an instruction that stores nothing, with an address outside what each stores to. -/
theorem witness_MemoryFrame :
    ∀ e ∈ [(Instr.staAbs, 0x1235), (.incZp, 0x0033), (.brk, 0x01FA), (.ldaImm, 0x0600)],
      (inT1 0x24).ready ∧ isNext (exec e.1 (inT1 0x24)) ∧
        BitVec.ofNat 16 e.2 ∉ storedAt e.1 (inT1 0x24) := by
  decide +kernel

theorem witness_RegisterFrame :
    ∀ e ∈ [(Instr.ldaImm, Reg.x), (.pla, .y), (.staZp, .a), (.jmpAbs, .s)],
      (inT1 0x24).ready ∧ isNext (exec e.1 (inT1 0x24)) ∧ e.2 ∉ registersWritten e.1 := by
  decide +kernel

/-- Also where the instruction faults at an unmapped address. -/
theorem witness_FlagFrame :
    (∀ e ∈ [(Instr.ldaImm, Flag.c), (.adcImm, .d), (.brk, .d), (.bitZp, .c)],
      (inT1 0x24).queue = [] ∧ isNext (exec e.1 (inT1 0x24)) ∧ e.2 ∉ flagsWritten e.1) ∧
    let s := { inT1 0x24 with cfg := { unmapped := [(0x1234, 0x1234)] } }
    s.queue = [] ∧ isNext (exec .adcAbs s) ∧ Flag.b ∉ flagsWritten .adcAbs := by
  decide +kernel

theorem witness_ControlFrame :
    ∀ i ∈ [Instr.brk, .pla, .halt],
      let s := { inT1 0x24 with nmiLatch := true, resetPending := true, irqLines := [true] }
      s.ready ∧ isNext (exec i s) := by
  decide +kernel

/-- The handle of the second of two tasks; delays at both sides of the border. -/
theorem witness_SchedulerCalls :
    let s := tasked .beforeCpu [.skip, .requestNmi]
    let h : Handle := ⟨1⟩
    s.fault = none ∧ s.sched.tasks[h.index]? = some ⟨.requestNmi, false, 0, 0⟩ ∧
      (0 : Int) < 1 ∧ (1 : Int) ≤ 1 := by
  decide +kernel

theorem witness_TasksFireOnTheNthPass :
    let s := tasked .beforeCpu [.skip, .requestNmi]
    let h : Handle := ⟨1⟩
    s.fault = none ∧ s.sched.tasks[h.index]? = some ⟨.requestNmi, false, 0, 0⟩ ∧
      (∀ u ∈ s.sched.tasks, u.live = false) ∧ 1 ≤ 3 ∧ 1 ≤ 5 ∧ 2 < 3 ∧ 4 < 5 := by
  decide +kernel

/-- Equal delays (m = 0) and unequal ones (m = 2 of n = 3), either handle first; two actions that write one byte. -/
theorem witness_TiesFireInScheduleOrder :
    let s := tasked .beforeCpu [pokeAt 0x0200 1, pokeAt 0x0200 2]
    (∀ e ∈ [((⟨0⟩, ⟨1⟩) : Handle × Handle), (⟨1⟩, ⟨0⟩)],
      s.fault = none ∧ e.1 ≠ e.2 ∧ (s.sched.tasks[e.1.index]?).isSome ∧ (s.sched.tasks[e.2.index]?).isSome ∧
        (∀ x ∈ s.sched.tasks, x.live = false)) ∧
    0 < 1 ∧ 2 < 3 ∧
    s.sched.tasks.map (·.action) =
      [.poke (.const 0x02) (.const 0x00) (.const 0x01), .poke (.const 0x02) (.const 0x00) (.const 0x02)] := by
  decide +kernel

/-- A rate of zero and one of √2, and a running and a paused clock with active time behind them. -/
theorem witness_SetRate :
    ((Quantity.rat 0).value named ≤ 0 ∧ 0 < (Quantity.real 0).value named) ∧
    ∀ c ∈ [({ lastNow := .rat 1000 } : Clock), { lastNow := .rat 1000, paused := true }],
      (if c.paused then c.lastNow.value named else max (c.lastNow.value named) ((Quantity.rat 2000).value named)) -
        c.tResync.value named - c.pausedNs.value named ≠ 0 := by
  norm_num [named, Quantity.value]

/-- A clock too slow and one too fast, with a nominal delay above 10 ns, at 10 ns and below. -/
theorem witness_DriftCorrection :
    let slow : Clock := { since := 1, lastNow := .rat 1000 }
    let fast : Clock := { since := 3, lastNow := .rat 1000 }
    (slow.achieved named).value named < slow.rate.value named ∧
      fast.rate.value named < (fast.achieved named).value named ∧ 10 ≤ slow.nominal.value named ∧
      10 ≤ ({ nominal := .rat 10 } : Clock).nominal.value named ∧
      ({ nominal := .rat 9 } : Clock).nominal.value named < 10 := by
  refine ⟨(Quantity.less_iff ..).1 (by decide +kernel), (Quantity.less_iff ..).1 (by decide +kernel), ?_⟩
  norm_num

theorem witness_PacedCycleIsOneTick :
    (State.reset.cfg.wellFormed ∧ State.reset.clock.paused = false ∧ State.reset.clock.before = [] ∧
      State.reset.clock.after = []) ∧
    { State.reset with clock := { paused := true } }.clock.paused = true := by
  decide +kernel

theorem witness_PacingDoesNotChangeTheEngine :
    let nmi : Listener := ⟨.requestNmi, .skip⟩
    let c : Clock := { rate := .rat 1, throttled := true, before := [nmi] }
    let s := { prog [0xEA] with clock := { before := [nmi] } }
    let later : Wall := ⟨.rat 6, .rat 7, .rat 8, .rat 9, .real 0, ⟨.rat 11, .rat 12⟩⟩
    s.cfg.wellFormed ∧ s.clock.paused = false ∧ c.paused = false ∧ c.before = s.clock.before ∧
      c.after = s.clock.after ∧ s.clock.listenersIgnoreTime ∧ [wall, wall].length = [later, later].length := by
  decide +kernel
end Sys2Proof.Tests
end

/-!
SUPPORT. The shape of a step: an engine tick and the drain of what it queued (40 R130, log 4), and the induction that
carries a property kept by every tick to every step.
-/

namespace Sys2Proof.Machine

theorem State.stopped_eq_false (s : State) : s.stopped = false ↔ s.halted = none ∧ s.fault = none := by
  simp [State.stopped]

/-- A configuration that can be built has room for 16 micro-ops (00 R8). -/
theorem Config.q_of_wellFormed {cfg : Config} (h : cfg.wellFormed) : 16 ≤ cfg.q := by
  simp only [Config.wellFormed, Bool.and_eq_true, decide_eq_true_eq] at h
  omega

theorem engineTick_cfg (s : State) : (engineTick s).cfg = s.cfg := by
  unfold engineTick
  split
  · cases hs : s.stopped with
    | true => rw [tickWith_of_stopped hs]
    | false => exact (tickWith_platform cpuTick_platform hs).2.cfg
  · rfl

theorem drain_of_stopped (n : Nat) {s : State} (h : s.stopped = true) : drain n s = s := by
  cases n <;> simp [drain, h]

/-- A fault at the end of a tick's CPU step is still recorded after the tick (60 R320). -/
theorem endTick_stopped_of_fault {s : State} (h : s.fault.isSome) : (endTick s).stopped = true := by
  have hf : (endTick s).fault = s.fault := (endTick_keeps s).2.fault h
  simp [State.stopped, hf, h]

/-- A step of a running engine is one engine tick and the drain of what that tick left queued (40 R130; log 4). -/
theorem step_of_running {s : State} (hw : s.cfg.wellFormed) (hs : s.stopped = false) :
    step s = .next (drainAll (engineTick s)) := by
  obtain ⟨hh, hf⟩ := s.stopped_eq_false.1 hs
  rw [engineTick_of_wellFormed hw]
  unfold step stepFront tickWith
  simp only [hw, hs, hf, hh, Bool.not_true, Bool.false_eq_true, if_false, Option.isSome_none]
  by_cases hfs : (startTick s).fault.isSome
  · simp only [hfs, if_true]
    rw [drainAll, drain_of_stopped _ (endTick_stopped_of_fault hfs)]
  · simp only [hfs, Bool.false_eq_true, if_false, cpuTick]
    cases cpuStep (startTick s) with
    | ran t => rfl
    | fetched i t => exact exec_eq_runInstr i t

/-- A step of a halted engine answers the same state, and a faulted one has no next state (40 R137; log 5). -/
theorem step_of_stopped {s t : State} (hs : s.stopped = true) (h : step s = .next t) : t = s := by
  unfold step stepFront at h
  cases hw : s.cfg.wellFormed with
  | false => simp [hw] at h
  | true =>
    cases hf : s.fault with
    | some f => simp [hw, hf] at h
    | none =>
      have hh : s.halted.isSome := by simpa [State.stopped, hf] using hs
      simpa [hw, hf, hh, eq_comm] using h

/-- A configuration that cannot be built is refused (30 R109). -/
theorem wellFormed_of_step {s t : State} (h : step s = .next t) : s.cfg.wellFormed = true := by
  cases hw : s.cfg.wellFormed with
  | true => rfl
  | false => simp [step, stepFront, hw] at h

/-- What every tick keeps, every step keeps (40 R130). -/
theorem step_keeps_of_tick {P : State → Prop} (htick : ∀ s, s.cfg.wellFormed → P s → P (engineTick s))
    {s t : State} (hP : P s) (h : step s = .next t) : P t := by
  have hw := wellFormed_of_step h
  cases hs : s.stopped with
  | true => rwa [step_of_stopped hs h]
  | false =>
    have ht : drainAll (engineTick s) = t := Host.Outcome.next.inj ((step_of_running hw hs).symm.trans h)
    obtain ⟨k, hk⟩ := drain_eq_ticks (3 * (engineTick s).queue.length) (s := engineTick s)
      (by rwa [engineTick_cfg])
    have hiter : (engineTick^[k + 1] s).cfg.wellFormed = true ∧ P (engineTick^[k + 1] s) :=
      Function.Iterate.rec (fun u => u.cfg.wellFormed = true ∧ P u) ⟨hw, hP⟩
        (fun u hu => ⟨by rw [engineTick_cfg]; exact hu.1, htick u hu.1 hu.2⟩) (k + 1)
    rw [← ht, drainAll, hk, ← Function.iterate_succ_apply]
    exact hiter.2

end Sys2Proof.Machine

/-!
SUPPORT. The bus for any relation that holds across its primitive effects, and the queue's invariant (10 R52, 40 R136):
what the environment's code, a cycle and a CPU step do to the queue, to `servicing` and to a queue fault.
-/

namespace Sys2Proof.Machine

/-! ## Relations across a bus access -/

/-- A relation that holds across the primitive effects of a bus access as well (20 R71, R72). -/
structure BusClosed (R : State → State → Prop) : Prop extends ActionClosed R where
  logBus : ∀ s c, R s (s.logBus c)
  busDraws : ∀ s n, R s { s with busDraws := n }

/-- Everything an access that is answered can do (20 R71). -/
theorem BusClosed.busAccess {R : State → State → Prop} (hR : BusClosed R) {s t : State} {acc : Access} {v : Byte}
    (h : busAccess s acc = .done v t) : R s t := by
  cases acc with
  | read addr =>
    simp only [Machine.busAccess, busRead] at h
    split at h
    · split at h
      · obtain ⟨-, rfl⟩ := Answer.done.inj h
        exact hR.logBus s _
      · obtain ⟨-, rfl⟩ := Answer.done.inj h
        exact hR.trans (hR.trans (hR.busDraws s _) (hR.logBus _ _)) (hR.runAction _ _ _)
    · cases h
  | write addr w =>
    simp only [Machine.busAccess, busWrite] at h
    split at h
    · split at h
      · obtain ⟨-, rfl⟩ := Answer.done.inj h
        exact hR.trans (hR.setMem s addr w) (hR.logBus _ _)
      · obtain ⟨-, rfl⟩ := Answer.done.inj h
        exact hR.trans (hR.logBus s _) (hR.runAction _ _ _)
    · cases h

/-! ## What leaves the queue's state alone -/

/-- The two faults of the queue (60 R322). -/
def Fault.ofQueue : Fault → Bool
  | .queueOverflow | .queueUnderflow => true
  | .decodeError _ _ | .busUnmapped _ _ | .schedulerBadDelay _ _ => false

/-- A queue fault is recorded. -/
def State.queueFaulted (s : State) : Bool := s.fault.any Fault.ofQueue

theorem State.queueInv_iff (s : State) :
    s.queueInv ↔
      tidyQueue s.queue ∧ s.servicing = s.queue.any MicroOp.endsService ∧ s.queueFaulted = false := by
  have hfault : s.queueFaulted = false ↔
      s.fault ≠ some .queueOverflow ∧ s.fault ≠ some .queueUnderflow := by
    unfold State.queueFaulted
    cases s.fault with
    | none => simp
    | some f => cases f <;> simp [Fault.ofQueue]
  simp only [State.queueInv, Bool.and_eq_true, decide_eq_true_eq, hfault, and_assoc]

/-- From `s` to `t` the queue, `servicing` and the configuration are unchanged, and no queue fault is raised. -/
structure KeepsQueue (s t : State) : Prop where
  queue : t.queue = s.queue
  servicing : t.servicing = s.servicing
  cfg : t.cfg = s.cfg
  faulted : s.queueFaulted = false → t.queueFaulted = false

theorem KeepsQueue.refl (s : State) : KeepsQueue s s := ⟨rfl, rfl, rfl, id⟩

theorem KeepsQueue.trans {s t u : State} (h : KeepsQueue s t) (k : KeepsQueue t u) : KeepsQueue s u :=
  ⟨k.queue.trans h.queue, k.servicing.trans h.servicing, k.cfg.trans h.cfg, fun hs => k.faulted (h.faulted hs)⟩

theorem KeepsQueue.queueInv {s t : State} (h : KeepsQueue s t) (hs : s.queueInv) : t.queueInv := by
  obtain ⟨htidy, hserv, hfault⟩ := s.queueInv_iff.1 hs
  exact t.queueInv_iff.2 ⟨by rwa [h.queue], by rw [h.servicing, h.queue, hserv], h.faulted hfault⟩

theorem State.raise_keepsQueue (s : State) {f : Fault} (hf : f.ofQueue = false) : KeepsQueue s (s.raise f) where
  queue := (s.raise_keeps f).queue
  servicing := (s.raise_keeps f).servicing
  cfg := (s.raise_keeps f).cfg
  faulted hs := by
    unfold State.raise
    split
    · exact hs
    · exact hf

theorem State.schedule_keepsQueue (s : State) (h : Handle) (d : Int) : KeepsQueue s (s.schedule h d) := by
  unfold State.schedule
  split
  · split
    · exact s.raise_keepsQueue rfl
    · exact ⟨rfl, rfl, rfl, id⟩
  · exact .refl s

/-- Peripheral code leaves the queue's state alone. -/
theorem KeepsQueue.actionClosed : ActionClosed KeepsQueue where
  refl := .refl
  trans := .trans
  schedule := State.schedule_keepsQueue
  unschedule _ _ := ⟨rfl, rfl, rfl, id⟩
  newTask _ _ := ⟨rfl, rfl, rfl, id⟩
  requestNmi _ := ⟨rfl, rfl, rfl, id⟩
  requestReset _ := ⟨rfl, rfl, rfl, id⟩
  irqLines _ _ := ⟨rfl, rfl, rfl, id⟩
  nmiLines _ _ := ⟨rfl, rfl, rfl, id⟩
  setMem _ _ _ := ⟨rfl, rfl, rfl, id⟩
  drawn _ := ⟨rfl, rfl, rfl, id⟩

theorem KeepsQueue.passClosed : PassClosed KeepsQueue where
  toActionClosed := KeepsQueue.actionClosed
  decrement _ := ⟨rfl, rfl, rfl, id⟩

theorem KeepsQueue.handlerClosed : HandlerClosed KeepsQueue where
  toActionClosed := KeepsQueue.actionClosed
  setCpuReg _ r _ := by cases r <;> exact ⟨rfl, rfl, rfl, id⟩
  snapshot _ _ := ⟨rfl, rfl, rfl, id⟩

theorem KeepsQueue.busClosed : BusClosed KeepsQueue where
  toActionClosed := KeepsQueue.actionClosed
  logBus _ _ := ⟨rfl, rfl, rfl, id⟩
  busDraws _ _ := ⟨rfl, rfl, rfl, id⟩

theorem startTick_keepsQueue (s : State) : KeepsQueue s (startTick s) := by
  unfold startTick
  split
  · exact KeepsQueue.passClosed.schedulerPass s
  · exact .refl s

theorem endTick_keepsQueue (s : State) : KeepsQueue s (endTick s) := by
  unfold endTick
  split
  · exact (KeepsQueue.passClosed.schedulerPass s).trans ⟨rfl, rfl, rfl, id⟩
  · exact ⟨rfl, rfl, rfl, id⟩

/-- An access is refused with a fault that is not the queue's. -/
theorem busAccess_unmapped_ofQueue {s : State} {acc : Access} {f : Fault} (h : busAccess s acc = .unmapped f) :
    f.ofQueue = false := by
  obtain ⟨addr, -, -, rfl⟩ | ⟨addr, v, -, -, rfl⟩ := busAccess_unmapped h <;> rfl

/-! ## A cycle -/

/-- A cycle keeps the queue's invariant where its pushes have room and its writes, from the popped queue, leave it
(40 R135, R136); a cycle that faults leaves the queue as it was (60 R320). -/
theorem runCycle_queueInv {s : State} {popped : List MicroOp} {acc : Access} {eff : Byte → State → State}
    {follow : State → List MicroOp} (hs : s.queueInv)
    (hroom : ∀ v t, KeepsQueue { s with queue := popped } t →
      (eff v t).queue.length + (follow (eff v t)).length ≤ (eff v t).cfg.q)
    (hdone : ∀ v t, KeepsQueue { s with queue := popped } t →
      State.queueInv { eff v t with queue := (eff v t).queue ++ follow (eff v t) }) :
    (runCycle s popped acc eff follow).queueInv := by
  obtain ⟨f, ha, hr⟩ | ⟨v, t, ha, ⟨-, hr⟩ | ⟨-, -, hr⟩ | ⟨-, hr⟩⟩ := runCycle_cases s popped acc eff follow
  · rw [hr]
    exact (s.raise_keepsQueue (busAccess_unmapped_ofQueue ha)).queueInv hs
  · have hk : KeepsQueue { s with queue := popped } t := KeepsQueue.busClosed.busAccess ha
    rw [hr]
    exact KeepsQueue.queueInv (s := s) ⟨rfl, hk.servicing, hk.cfg, hk.faulted⟩ hs
  · rw [enqueue_of_room (hroom v t (KeepsQueue.busClosed.busAccess ha))] at hr
    cases hr
  · rw [hr]
    exact hdone v t (KeepsQueue.busClosed.busAccess ha)

/-! ## A micro-op at the head of the queue -/

theorem MicroOp.follow_of_not_mayPush {op : MicroOp} (h : op.mayPush = false) (s : State) : op.follow s = [] := by
  cases op with
  | readSpeculative _ | branchFetch _ | branchTake => cases h
  | _ => rfl

/-- A conditional cycle ends no service. -/
theorem MicroOp.follow_any_endsService (op : MicroOp) (s : State) :
    (op.follow s).any MicroOp.endsService = false := by
  cases op with
  | readSpeculative _ | branchFetch _ | branchTake =>
    simp only [MicroOp.follow]
    split <;> rfl
  | _ => rfl

/-- A micro-op clears `servicing` exactly where it ends a service (60 R340). -/
theorem MicroOp.effect_servicing (op : MicroOp) (v : Byte) (s : State) :
    (op.effect v s).servicing = (!op.endsService && s.servicing) := by
  cases op with
  | implied o => cases o <;> rfl
  | readImmediate o => cases o <;> rfl
  | readZeroPage o => cases o <;> rfl
  | readAbsolute o => cases o <;> rfl
  | readCorrected o => cases o <;> rfl
  | readSpeculative o => cases o <;> simp only [MicroOp.effect] <;> split <;> rfl
  | correctHi => simp only [MicroOp.effect]; split <;> rfl
  | testFlags => simp only [MicroOp.effect]; split <;> rfl
  | trapFlags => simp only [MicroOp.effect]; split <;> rfl
  | vectorHi w ends => cases ends <;> rfl
  | _ => rfl

/-- In a tidy queue the head that pushes or ends a service is the last (40 R136). -/
theorem tidyQueue_cons {op : MicroOp} {rest : List MicroOp} (h : tidyQueue (op :: rest)) :
    rest = [] ∨ (op.mayPush = false ∧ op.endsService = false ∧ tidyQueue rest) := by
  cases rest with
  | nil => exact .inl rfl
  | cons op' rest =>
    simp only [tidyQueue, List.length_cons, List.dropLast_cons_cons, List.all_cons, Bool.and_eq_true,
      decide_eq_true_eq, Bool.not_eq_true'] at h ⊢
    obtain ⟨hlen, ⟨hpush, hends⟩, hrest⟩ := h
    exact .inr ⟨hpush, hends, by omega, hrest⟩

theorem tidyQueue_of_length_le_one {q : List MicroOp} (h : q.length ≤ 1) : tidyQueue q := by
  match q, h with
  | [], _ => rfl
  | [_], _ => rfl

/-- The queue after its head has run is tidy, and holds the end of the service unless the head was that. -/
theorem tidyQueue_follow {op : MicroOp} {rest : List MicroOp} (h : tidyQueue (op :: rest)) (s : State) :
    tidyQueue (rest ++ op.follow s) ∧
      (rest ++ op.follow s).any MicroOp.endsService =
        (!op.endsService && (op :: rest).any MicroOp.endsService) := by
  obtain rfl | ⟨hpush, hends, hrest⟩ := tidyQueue_cons h
  · exact ⟨tidyQueue_of_length_le_one (op.follow_length s), by simp [op.follow_any_endsService s]⟩
  · rw [op.follow_of_not_mayPush hpush s, List.append_nil]
    exact ⟨hrest, by simp [hends]⟩

theorem runMicroOp_queueInv {op : MicroOp} {rest : List MicroOp} {s : State} (hq : 16 ≤ s.cfg.q)
    (hs : s.queueInv) (hop : s.queue = op :: rest) : (runMicroOp op rest s).queueInv := by
  obtain ⟨htidy, hserv, hfault⟩ := s.queueInv_iff.1 hs
  rw [hop] at htidy hserv
  have hlen : rest.length < 6 := by
    simp only [tidyQueue, Bool.and_eq_true, decide_eq_true_eq, List.length_cons] at htidy
    omega
  refine runCycle_queueInv hs ?_ ?_
  · intro v t hk
    have hf := op.follow_length (op.effect v t)
    have hcfg : (op.effect v t).cfg = s.cfg := by rw [op.effect_frame]; exact hk.cfg
    have hqueue : (op.effect v t).queue = rest := by rw [op.effect_frame]; exact hk.queue
    rw [hcfg, hqueue]
    omega
  · intro v t hk
    have hqueue : (op.effect v t).queue = rest := by rw [op.effect_frame]; exact hk.queue
    have hfault' : (op.effect v t).fault = t.fault := by rw [op.effect_frame]
    obtain ⟨htidy', hends⟩ := tidyQueue_follow htidy (op.effect v t)
    rw [State.queueInv_iff]
    simp only [hqueue, op.effect_servicing, hk.servicing, State.queueFaulted, hfault', hserv, hends]
    exact ⟨htidy', trivial, hk.faulted hfault⟩

/-- The CPU step away from a quiescent point finds a micro-op: the queue never underflows (10 R52). -/
theorem cpuMicroOp_queueInv {s : State} (hq : 16 ≤ s.cfg.q) (hs : s.queueInv) (hqs : s.quiescent = false) :
    (cpuMicroOp s).queueInv := by
  unfold cpuMicroOp
  split
  · next op rest hop => exact runMicroOp_queueInv hq hs hop
  · next hnil =>
    obtain ⟨-, hserv, -⟩ := s.queueInv_iff.1 hs
    simp [State.quiescent, hnil, hserv] at hqs

/-! ## The quiescent point -/

theorem tidyQueue_serviceCycles (kind : ServiceKind) :
    tidyQueue (serviceCycles kind) ∧ (serviceCycles kind).any MicroOp.endsService ∧
      (serviceCycles kind).length = 6 := by
  cases kind <;> decide

/-- FetchDecode pushes a tidy queue without the end of a service (40 R136). -/
theorem tidyQueue_cyclesOf (i : Instr) :
    tidyQueue (cyclesOf i) ∧ (cyclesOf i).any MicroOp.endsService = false := by
  cases i <;> decide

theorem beginService_queueInv {kind : ServiceKind} {s : State} (hq : 16 ≤ s.cfg.q) (hs : s.queueInv)
    (hnil : s.queue = []) : (beginService kind s).queueInv := by
  obtain ⟨htidy, hends, hlen⟩ := tidyQueue_serviceCycles kind
  obtain ⟨-, -, hfault⟩ := s.queueInv_iff.1 hs
  refine runCycle_queueInv hs ?_ ?_
  · intro v t hk
    have hqueue : t.queue = [] := hk.queue.trans hnil
    simp only [hqueue, hk.cfg, hlen, List.length_nil]
    omega
  · intro v t hk
    have hqueue : t.queue = [] := hk.queue.trans hnil
    rw [State.queueInv_iff]
    simp only [hqueue, List.nil_append]
    exact ⟨htidy, hends.symm, hk.faulted hfault⟩

theorem processIntercepts_keepsQueue (s : State) : KeepsQueue s (processIntercepts s).1 := by
  unfold processIntercepts
  split
  · exact .refl s
  · exact KeepsQueue.handlerClosed.runHandler _ s

theorem fetchDecode_keepsQueue (s : State) : KeepsQueue s (fetchDecode s).state := by
  unfold fetchDecode
  split
  · next f h =>
    exact s.raise_keepsQueue (busAccess_unmapped_ofQueue (acc := .read s.pc) h)
  · next v t h =>
    have hk : KeepsQueue s t := KeepsQueue.busClosed.busAccess (acc := .read s.pc) h
    have hr : KeepsQueue t (opcodeRead v t) := ⟨rfl, rfl, rfl, id⟩
    split
    · exact hk
    · split
      · exact (hk.trans hr).trans (State.raise_keepsQueue _ rfl)
      · exact hk.trans hr

theorem interceptedFetch_keepsQueue (s : State) : KeepsQueue s (interceptedFetch s).state := by
  have hk := processIntercepts_keepsQueue s
  unfold interceptedFetch
  dsimp only
  split
  · exact hk.trans (fetchDecode_keepsQueue _)
  · exact hk

/-- Steps (a) and (a') and the check that takes a request leave the queue's state alone (40 R132). -/
theorem sampled_keepsQueue (s : State) :
    KeepsQueue s (sampleInterrupts (performSnapshot { s with bus := [] })) := by
  unfold performSnapshot
  split <;> exact ⟨rfl, rfl, rfl, id⟩

theorem takeRequest_keepsQueue (kind : ServiceKind) (s : State) : KeepsQueue s (takeRequest kind s) := by
  cases kind <;> exact ⟨rfl, rfl, rfl, id⟩

/-! ## The tick -/

/-- The state that a CPU step leaves, a fetched instruction's cycles pushed (40 R133). -/
def CpuStep.pushed : CpuStep → State
  | .ran s => s
  | .fetched i s => pushAll (cyclesOf i) s

theorem cpuTick_eq_pushed (s : State) : cpuTick s = (cpuStep s).pushed := by
  unfold cpuTick
  cases cpuStep s <;> rfl

theorem pushAll_of_room {ops : List MicroOp} {s : State} (hnil : s.queue = []) (h : ops.length ≤ s.cfg.q) :
    pushAll ops s = { s with queue := ops } := by
  unfold pushAll
  rw [enqueue_of_room (by simpa [hnil] using h)]
  simp [hnil]

theorem pushAll_cyclesOf_queueInv {i : Instr} {s : State} (hq : 16 ≤ s.cfg.q) (hs : s.queueInv)
    (hnil : s.queue = []) : (pushAll (cyclesOf i) s).queueInv := by
  obtain ⟨htidy, hends⟩ := tidyQueue_cyclesOf i
  obtain ⟨-, hserv, hfault⟩ := s.queueInv_iff.1 hs
  rw [pushAll_of_room hnil (by have := cyclesOf_length i; omega), State.queueInv_iff]
  exact ⟨htidy, by rw [hends]; simpa [hnil] using hserv, hfault⟩

/-- A CPU step that leaves the queue's state alone keeps the invariant, a fetched instruction's cycles pushed. -/
theorem CpuStep.pushed_queueInv {c : CpuStep} {s : State} (hk : KeepsQueue s c.state) (hq : 16 ≤ s.cfg.q)
    (hs : s.queueInv) (hnil : s.queue = []) : c.pushed.queueInv := by
  cases c with
  | ran t => exact hk.queueInv hs
  | fetched i t =>
    have hcfg : t.cfg = s.cfg := hk.cfg
    exact pushAll_cyclesOf_queueInv (by rwa [hcfg]) (hk.queueInv hs) (hk.queue.trans hnil)

theorem quiescentStep_queueInv {s : State} (hq : 16 ≤ s.cfg.q) (hs : s.queueInv) (hnil : s.queue = []) :
    (quiescentStep s).pushed.queueInv := by
  have hk := sampled_keepsQueue s
  unfold quiescentStep
  dsimp only
  cases pendingService (sampleInterrupts (performSnapshot { s with bus := [] })) with
  | some kind =>
    have hk' := hk.trans (takeRequest_keepsQueue kind _)
    exact beginService_queueInv (by rwa [hk'.cfg]) (hk'.queueInv hs) (hk'.queue.trans hnil)
  | none => exact CpuStep.pushed_queueInv (hk.trans (interceptedFetch_keepsQueue _)) hq hs hnil

theorem cpuTick_queueInv {s : State} (hq : 16 ≤ s.cfg.q) (hs : s.queueInv) : (cpuTick s).queueInv := by
  rw [cpuTick_eq_pushed, cpuStep]
  cases hqs : s.quiescent with
  | false => exact cpuMicroOp_queueInv hq hs hqs
  | true =>
    have hnil : s.queue = [] := by
      simp only [State.quiescent, Bool.and_eq_true, List.isEmpty_iff] at hqs
      exact hqs.1
    exact quiescentStep_queueInv hq hs hnil

theorem engineTick_queueInv {s : State} (hq : 16 ≤ s.cfg.q) (hs : s.queueInv) : (engineTick s).queueInv := by
  have hk := startTick_keepsQueue s
  unfold engineTick tickWith
  split
  · split
    · exact hs
    · refine (endTick_keepsQueue _).queueInv ?_
      split
      · exact hk.queueInv hs
      · exact cpuTick_queueInv (by rwa [hk.cfg]) (hk.queueInv hs)
  · exact hs

end Sys2Proof.Machine

namespace Sys2Proof.Machine

/-- Settles O8: every tick keeps the queue's invariant where the queue has room, and a step is a number of ticks under
a configuration that can be built, which gives it room. -/
theorem queueInvariantKept : Obligations.QueueInvariantKept := by
  unfold Obligations.QueueInvariantKept
  exact ⟨fun s hq hs => engineTick_queueInv hq hs, fun s t hs h =>
    step_keeps_of_tick (P := fun u => u.queueInv)
      (fun u hw hu => engineTick_queueInv (Config.q_of_wellFormed hw) hu) hs h⟩

end Sys2Proof.Machine

/-!
SUPPORT. What the run of an instruction's cycles keeps in any environment: a relation that holds across the environment's
code and across the writes of the cycles holds across `exec`. The flags and the registers that each cycle writes.
-/

namespace Sys2Proof.Machine

/-! ## Relations across the run of an instruction -/

/-- A relation that holds across whatever the environment does, across the queue's and the counter's own changes, and
across the writes of the micro-ops that `ok` admits, whose conditional cycles it admits too. -/
structure DrainClosed (R : State → State → Prop) (ok : MicroOp → Prop) : Prop where
  trans : ∀ {s t u}, R s t → R t u → R s u
  keeps : ∀ {s t}, KeepsEngine s t → R s t
  queue : ∀ s q, R s { s with queue := q }
  cycles : ∀ s n, R s { s with cycles := n }
  effect : ∀ {op}, ok op → ∀ v s, R s (op.effect v s)
  follow : ∀ {op}, ok op → ∀ s, ∀ op' ∈ op.follow s, ok op'

section DrainClosed

variable {R : State → State → Prop} {ok : MicroOp → Prop}

theorem DrainClosed.endTick (hR : DrainClosed R ok) (s : State) : R s (endTick s) :=
  hR.trans (hR.keeps (endTick_keeps s).2) (hR.cycles _ (Machine.endTick s).cycles)

/-- A micro-op that `ok` admits: what it writes, and what it leaves queued. -/
theorem DrainClosed.runMicroOp (hR : DrainClosed R ok) {op : MicroOp} {rest : List MicroOp} {s : State}
    (hq : s.queue = op :: rest) (hok : ∀ op' ∈ s.queue, ok op') :
    R s (runMicroOp op rest s) ∧ ∀ op' ∈ (runMicroOp op rest s).queue, ok op' := by
  have hop : ok op := hok op (by simp [hq])
  have hrest : ∀ op' ∈ rest, ok op' := fun op' h => hok op' (by simp [hq, h])
  have hraise (f : Fault) : R s (s.raise f) ∧ ∀ op' ∈ (s.raise f).queue, ok op' :=
    ⟨hR.keeps (s.raise_keeps f), by rwa [(s.raise_keeps f).queue]⟩
  unfold Machine.runMicroOp
  obtain ⟨f, -, hr⟩ | ⟨v, t, ha, ⟨-, hr⟩ | ⟨-, hr, -⟩ | ⟨-, hr⟩⟩ :=
    runCycle_cases s rest (op.access s) (fun v t => op.effect v t) (fun t => op.follow t)
  · rw [hr]; exact hraise f
  · rw [hr]
    exact ⟨hR.trans (hR.trans (hR.queue s rest) (hR.keeps (busAccess_keeps ha))) (hR.queue t _), hok⟩
  · rw [hr]; exact hraise _
  · have hk := busAccess_keeps ha
    have hqueue : (op.effect v t).queue = rest := by rw [op.effect_frame]; exact hk.queue
    rw [hr]
    refine ⟨hR.trans (hR.trans (hR.trans (hR.queue s rest) (hR.keeps hk)) (hR.effect hop v t)) (hR.queue _ _), ?_⟩
    simp only [hqueue, List.mem_append]
    exact fun op' h => h.elim (hrest op') (hR.follow hop _ op')

theorem DrainClosed.cpuMicroOp (hR : DrainClosed R ok) {s : State} (hok : ∀ op ∈ s.queue, ok op) :
    R s (cpuMicroOp s) ∧ ∀ op ∈ (cpuMicroOp s).queue, ok op := by
  unfold Machine.cpuMicroOp
  split
  · next op rest hq => exact hR.runMicroOp hq hok
  · next hq => exact ⟨hR.keeps (s.raise_keeps _), by rwa [(s.raise_keeps _).queue]⟩

theorem DrainClosed.microTick (hR : DrainClosed R ok) {s : State} (hok : ∀ op ∈ s.queue, ok op) :
    R s (microTick s) ∧ ∀ op ∈ (microTick s).queue, ok op := by
  have hk := startTick_keeps s
  have hstart : ∀ op ∈ (startTick s).queue, ok op := by rwa [hk.queue]
  have hend (t : State) : (Machine.endTick t).queue = t.queue := (endTick_keeps t).2.queue
  unfold Machine.microTick tickWith
  split
  · exact ⟨hR.keeps (.refl s), hok⟩
  · split
    · exact ⟨hR.trans (hR.keeps hk) (hR.endTick _), by rwa [hend]⟩
    · obtain ⟨hrel, hqueue⟩ := hR.cpuMicroOp hstart
      exact ⟨hR.trans (hR.trans (hR.keeps hk) hrel) (hR.endTick _), by rwa [hend]⟩

theorem DrainClosed.drain (hR : DrainClosed R ok) (n : Nat) {s : State} (hok : ∀ op ∈ s.queue, ok op) :
    R s (drain n s) := by
  induction n generalizing s with
  | zero => exact hR.keeps (.refl s)
  | succ n ih =>
    rw [Machine.drain]
    split
    · exact hR.keeps (.refl s)
    · obtain ⟨hrel, hqueue⟩ := hR.microTick hok
      exact hR.trans hrel (ih hqueue)

/-- Everything an instruction can do from a state with nothing queued, in any environment. -/
theorem DrainClosed.exec (hR : DrainClosed R ok) {i : Instr} {s t : State} (hnil : s.queue = [])
    (hok : ∀ op ∈ cyclesOf i, ok op) (h : exec i s = .next t) : R s t := by
  rw [exec_eq_runInstr] at h
  obtain rfl := Host.Outcome.next.inj h
  have hpush : R s (pushAll (cyclesOf i) s) ∧ ∀ op ∈ (pushAll (cyclesOf i) s).queue, ok op := by
    unfold pushAll
    split
    · next u hu =>
      rw [enqueue_some hu]
      exact ⟨hR.queue s _, by simpa [hnil] using hok⟩
    · exact ⟨hR.keeps (s.raise_keeps _), by rw [(s.raise_keeps _).queue, hnil]; simp⟩
  obtain ⟨hrel, hqueue⟩ := hpush
  refine hR.trans (hR.trans hrel (hR.endTick _)) (hR.drain _ ?_)
  rwa [(endTick_keeps _).2.queue]

end DrainClosed

/-! ## The flags that a cycle writes (10 R37) -/

theorem getFlag_putNZ_of_notMem {f : Flag} (h : f ∉ [Flag.n, .z]) (p v : Byte) :
    getFlag (putNZ p v) f = getFlag p f := by
  simp_all [getFlag_putNZ]

/-- ADC writes N, V, Z and C in both modes (42 R220, R221). -/
theorem getFlag_adcByte_of_notMem {f : Flag} (h : f ∉ [Flag.n, .v, .z, .c]) (a v p : Byte) :
    getFlag (adcByte a v p).2 f = getFlag p f := by
  unfold adcByte
  split
  · simp_all [adcDecimal, getFlag_putFlag]
  · simp_all [adcBinary, getFlag_putNZ, getFlag_putFlag]

/-- SBC writes N, V, Z and C in both modes (42 R222, R223). -/
theorem getFlag_sbcByte_of_notMem {f : Flag} (h : f ∉ [Flag.n, .v, .z, .c]) (a v p : Byte) :
    getFlag (sbcByte a v p).2 f = getFlag p f := by
  unfold sbcByte
  split <;> simp_all [sbcDecimal, sbcBinary, getFlag_putNZ, getFlag_putFlag]

theorem getFlag_compareReg_of_notMem {f : Flag} (h : f ∉ [Flag.n, .z, .c]) (r v p : Byte) :
    getFlag (compareReg r v p) f = getFlag p f := by
  simp_all [compareReg, getFlag_putNZ, getFlag_putFlag]

theorem getFlag_bitTest_of_notMem {f : Flag} (h : f ∉ [Flag.n, .v, .z]) (a v p : Byte) :
    getFlag (bitTest a v p) f = getFlag p f := by
  simp_all [bitTest, getFlag_putFlag]

/-- The flags that `f(v)` of a class R instruction writes. -/
def ReadOp.flags : ReadOp → List Flag
  | .lda | .ldx | .ldy | .and | .ora | .eor => [.n, .z]
  | .adc | .sbc => [.n, .v, .z, .c]
  | .cmp | .cpx | .cpy => [.n, .z, .c]
  | .bit => [.n, .v, .z]

theorem ReadOp.apply_getFlag {op : ReadOp} {f : Flag} (h : f ∉ op.flags) (v : Byte) (s : State) :
    getFlag (op.apply v s).p f = getFlag s.p f := by
  cases op with
  | lda | ldx | ldy | and | ora | eor => exact getFlag_putNZ_of_notMem h _ _
  | adc => exact getFlag_adcByte_of_notMem h _ _ _
  | sbc => exact getFlag_sbcByte_of_notMem h _ _ _
  | cmp | cpx | cpy => exact getFlag_compareReg_of_notMem h _ _ _
  | bit => exact getFlag_bitTest_of_notMem h _ _ _

/-- The flags that `h(v)` of a class M instruction writes. -/
def ModifyOp.flags : ModifyOp → List Flag
  | .asl | .lsr | .rol | .ror => [.n, .z, .c]
  | .inc | .dec => [.n, .z]

theorem ModifyOp.result_getFlag {op : ModifyOp} {f : Flag} (h : f ∉ op.flags) (v p : Byte) :
    getFlag (op.result v p).2 f = getFlag p f := by
  cases op with
  | asl | lsr | rol | ror =>
    simp_all [ModifyOp.flags, ModifyOp.result, aslByte, lsrByte, rolByte, rorByte, getFlag_putNZ, getFlag_putFlag]
  | inc | dec => exact getFlag_putNZ_of_notMem h _ _

/-- The flags that a class I instruction writes. -/
def ImpliedOp.flags : ImpliedOp → List Flag
  | .tax | .tay | .txa | .tya | .tsx | .inx | .iny | .dex | .dey => [.n, .z]
  | .txs | .nop => []
  | .clc | .sec => [.c]
  | .cli | .sei => [.i]
  | .cld | .sed => [.d]
  | .clv => [.v]

theorem ImpliedOp.apply_getFlag {op : ImpliedOp} {f : Flag} (h : f ∉ op.flags) (s : State) :
    getFlag (op.apply s).p f = getFlag s.p f := by
  cases op with
  | tax | tay | txa | tya | tsx | inx | iny | dex | dey => exact getFlag_putNZ_of_notMem h _ _
  | txs | nop => rfl
  | clc | sec | cli | sei | cld | sed | clv => exact getFlag_putFlag_of_ne _ _ (by simpa [ImpliedOp.flags] using h)

/-- The flags that a micro-op writes (10 R37, R38). -/
def MicroOp.flags : MicroOp → List Flag
  | .implied op => op.flags
  | .accumulator op | .modifyZeroPage op | .modifyAbsolute op => op.flags
  | .readImmediate op | .readZeroPage op | .readAbsolute op | .readSpeculative op | .readCorrected op => op.flags
  | .pushStatus _ => [.i]
  | .pullA => [.n, .z]
  | .pullP | .pullPAdvance | .resetEnd => [.c, .z, .i, .d, .b, .r, .v, .n]
  | _ => []

theorem Flag.mem_all (f : Flag) : f ∈ [Flag.c, .z, .i, .d, .b, .r, .v, .n] := by cases f <;> decide

theorem MicroOp.effect_getFlag {op : MicroOp} {f : Flag} (h : f ∉ op.flags) (v : Byte) (s : State) :
    getFlag (op.effect v s).p f = getFlag s.p f := by
  cases op with
  | implied o => exact ImpliedOp.apply_getFlag h s
  | accumulator o => exact ModifyOp.result_getFlag h _ _
  | modifyZeroPage o | modifyAbsolute o => exact ModifyOp.result_getFlag h _ _
  | readImmediate o => exact ReadOp.apply_getFlag h v s.advance
  | readZeroPage o | readAbsolute o | readCorrected o => exact ReadOp.apply_getFlag h v s
  | readSpeculative o =>
    simp only [MicroOp.effect]
    split
    · rfl
    · exact ReadOp.apply_getFlag h v s
  | pushStatus b => exact getFlag_putFlag_of_ne _ _ (by simpa [MicroOp.flags] using h)
  | pullA => exact getFlag_putNZ_of_notMem h _ _
  | pullP | pullPAdvance | resetEnd => exact absurd f.mem_all h
  | correctHi | testFlags | trapFlags =>
    simp only [MicroOp.effect]
    split <;> rfl
  | _ => rfl

/-- A conditional cycle writes no flag that the cycle which pushes it does not write. -/
theorem MicroOp.follow_flags (op : MicroOp) (s : State) : ∀ op' ∈ op.follow s, op'.flags ⊆ op.flags := by
  cases op with
  | readSpeculative o | branchFetch c | branchTake =>
    simp only [MicroOp.follow]
    split <;> simp [MicroOp.flags]
  | _ => simp [MicroOp.follow]

/-- The cycles of an instruction write the flags that 10 R37 lists for it, no other. -/
theorem cyclesOf_flags (i : Instr) : ∀ op ∈ cyclesOf i, op.flags ⊆ flagsWritten i := by
  cases i <;> decide

/-- A flag that no cycle of an instruction writes is kept by the instruction. -/
theorem drainClosed_getFlag (f : Flag) :
    DrainClosed (fun s t => getFlag t.p f = getFlag s.p f) (fun op => f ∉ op.flags) where
  trans h k := k.trans h
  keeps h := by rw [h.p]
  queue _ _ := rfl
  cycles _ _ := rfl
  effect h v s := MicroOp.effect_getFlag h v s
  follow h s op' hop' hf := h (MicroOp.follow_flags _ s op' hop' hf)

end Sys2Proof.Machine

namespace Sys2Proof.Machine

/-- Settles O52: each cycle of an instruction writes listed flags only, and nothing else in the ticks of its run writes
P. -/
theorem flagFrame : Obligations.FlagFrame := by
  unfold Obligations.FlagFrame
  intro i s t hnil h f hf
  exact (drainClosed_getFlag f).exec hnil (fun op hop hmem => hf (cyclesOf_flags i op hop hmem)) h

end Sys2Proof.Machine

/-!
SUPPORT. The registers that each cycle writes (10 R31 to R34), and the parts of the control state that no instruction
writes: what can halt, and what a quiet run of cycles leaves alone and leaves queued (10 R40, 40 R136, 60 R325).
-/

namespace Sys2Proof.Machine

/-! ## Registers -/

/-- The registers that `f(v)` of a class R instruction writes. -/
def ReadOp.regs : ReadOp → List Reg
  | .lda | .adc | .sbc | .and | .ora | .eor => [.a]
  | .ldx => [.x]
  | .ldy => [.y]
  | .cmp | .cpx | .cpy | .bit => []

/-- The registers that a class I instruction writes. -/
def ImpliedOp.regs : ImpliedOp → List Reg
  | .txa | .tya => [.a]
  | .tax | .tsx | .inx | .dex => [.x]
  | .tay | .iny | .dey => [.y]
  | .txs => [.s]
  | .clc | .sec | .cli | .sei | .cld | .sed | .clv | .nop => []

/-- The registers that a micro-op writes. -/
def MicroOp.regs : MicroOp → List Reg
  | .implied op => op.regs
  | .accumulator _ | .pullA => [.a]
  | .readImmediate op | .readZeroPage op | .readAbsolute op | .readSpeculative op | .readCorrected op => op.regs
  | .dummyStackPull | .pushA | .pushP | .pushPcHi | .pushPcLo | .pushStatus _ | .pullPAdvance | .pullLo => [.s]
  | .resetEnd => [.a, .x, .y, .s]
  | _ => []

theorem ReadOp.apply_reg {op : ReadOp} {r : Reg} (h : r ∉ op.regs) (v : Byte) (s : State) :
    (op.apply v s).reg r = s.reg r := by
  cases op <;> cases r <;> first | rfl | exact absurd (by decide) h

theorem ImpliedOp.apply_reg {op : ImpliedOp} {r : Reg} (h : r ∉ op.regs) (s : State) :
    (op.apply s).reg r = s.reg r := by
  cases op <;> cases r <;> first | rfl | exact absurd (by decide) h

theorem MicroOp.effect_reg {op : MicroOp} {r : Reg} (h : r ∉ op.regs) (v : Byte) (s : State) :
    (op.effect v s).reg r = s.reg r := by
  cases op with
  | implied o => exact ImpliedOp.apply_reg h s
  | readImmediate o => exact (ReadOp.apply_reg h v s.advance).trans (by cases r <;> rfl)
  | readZeroPage o | readAbsolute o | readCorrected o => exact ReadOp.apply_reg h v s
  | readSpeculative o =>
    simp only [MicroOp.effect]
    split
    · rfl
    · exact ReadOp.apply_reg h v s
  | correctHi | testFlags | trapFlags =>
    simp only [MicroOp.effect]
    split <;> cases r <;> rfl
  | _ => cases r <;> first | rfl | exact absurd (by simp [MicroOp.regs]) h

theorem MicroOp.follow_regs (op : MicroOp) (s : State) : ∀ op' ∈ op.follow s, op'.regs ⊆ op.regs := by
  cases op with
  | readSpeculative o | branchFetch c | branchTake =>
    simp only [MicroOp.follow]
    split <;> simp [MicroOp.regs]
  | _ => simp [MicroOp.follow]

/-- The cycles of an instruction write the registers that 10 R31 to R34 list for it, no other. -/
theorem cyclesOf_regs (i : Instr) : ∀ op ∈ cyclesOf i, op.regs ⊆ registersWritten i := by
  cases i <;> decide

/-- A register that no cycle of an instruction writes is kept by the instruction. -/
theorem drainClosed_reg (r : Reg) :
    DrainClosed (fun s t => t.reg r = s.reg r) (fun op => r ∉ op.regs) where
  trans h k := k.trans h
  keeps h := by cases r <;> simp [State.reg, h.a, h.x, h.y, h.sp]
  queue _ _ := by cases r <;> rfl
  cycles _ _ := by cases r <;> rfl
  effect h v s := MicroOp.effect_reg h v s
  follow h s op' hop' hr := h (MicroOp.follow_regs _ s op' hop' hr)

/-! ## Halting -/

/-- The micro-ops that can halt the engine (60 R325). -/
def MicroOp.mayHalt : MicroOp → Bool
  | .haltNow | .testFlags | .trapFlags => true
  | _ => false

theorem ReadOp.apply_halted (op : ReadOp) (v : Byte) (s : State) : (op.apply v s).halted = s.halted := by
  rw [op.apply_frame]

theorem MicroOp.effect_halted {op : MicroOp} (h : op.mayHalt = false) (v : Byte) (s : State) :
    (op.effect v s).halted = s.halted := by
  cases op with
  | implied o => simp only [MicroOp.effect]; rw [o.apply_frame]
  | readImmediate o => exact o.apply_halted v s.advance
  | readZeroPage o | readAbsolute o | readCorrected o => exact o.apply_halted v s
  | readSpeculative o =>
    simp only [MicroOp.effect]
    split
    · rfl
    · exact o.apply_halted v s
  | correctHi =>
    simp only [MicroOp.effect]
    split <;> rfl
  | haltNow | testFlags | trapFlags => cases h
  | _ => rfl

theorem MicroOp.follow_mayHalt (op : MicroOp) (s : State) : ∀ op' ∈ op.follow s, op'.mayHalt = false := by
  cases op with
  | readSpeculative o | branchFetch c | branchTake =>
    simp only [MicroOp.follow]
    split <;> simp [MicroOp.mayHalt]
  | _ => simp [MicroOp.follow]

/-- Only the debug extensions have a cycle that can halt (47 R310 to R312). -/
theorem cyclesOf_mayHalt {i : Instr} (h : i.isDebug = false) : ∀ op ∈ cyclesOf i, op.mayHalt = false := by
  cases i with
  | halt | test | trap => cases h
  | _ => decide

theorem drainClosed_halted :
    DrainClosed (fun s t => t.halted = s.halted) (fun op => op.mayHalt = false) where
  trans h k := k.trans h
  keeps h := h.halted
  queue _ _ := rfl
  cycles _ _ := rfl
  effect h v s := MicroOp.effect_halted h v s
  follow _ s op' hop' := MicroOp.follow_mayHalt _ s op' hop'

/-! ## What a quiet run leaves alone -/

/-- `t` is `s` but for the registers, the temporaries, the halt state, the cycle counter, the queue, memory and the
record of bus cycles. -/
def KeepsRequests (s t : State) : Prop :=
  t =
    { s with
      a := t.a, x := t.x, y := t.y, sp := t.sp, pc := t.pc, p := t.p, tmp := t.tmp, halted := t.halted
      cycles := t.cycles, queue := t.queue, mem := t.mem, bus := t.bus }

theorem KeepsRequests.trans {s t u : State} (h : KeepsRequests s t) (k : KeepsRequests t u) :
    KeepsRequests s u := by
  unfold KeepsRequests at h k ⊢
  rw [h] at k
  exact k

/-- A micro-op that ends no service changes no request, line, task or parameter in a plain environment. -/
theorem quietOp_keepsRequests {op : MicroOp} (h : op.endsService = false) (s : State) :
    KeepsRequests s (quietOp op s) := by
  have hserv : (quietOp op s).servicing = s.servicing := by
    unfold quietOp
    rw [op.effect_servicing, quietAfter_frame]
    simp [h]
  have hcycles : (quietOp op s).cycles = s.cycles := by rw [quietOp_frame]
  have hqueue : (quietOp op s).queue = s.queue := by rw [quietOp_frame]
  unfold KeepsRequests
  rw [hcycles, hqueue, ← hserv]
  exact quietOp_frame op s

theorem MicroOp.follow_endsService (op : MicroOp) (s : State) :
    ∀ op' ∈ op.follow s, op'.endsService = false := by
  simpa using op.follow_any_endsService s

theorem quietRun_keepsRequests (n : Nat) {q : List MicroOp} (s : State) (h : ∀ op ∈ q, op.endsService = false) :
    KeepsRequests s (quietRun n q s) := by
  induction n generalizing q s with
  | zero => exact rfl
  | succ n ih =>
    cases q with
    | nil => exact rfl
    | cons op rest =>
      have hop := quietOp_keepsRequests (h op (by simp)) s
      rw [quietRun]
      split
      · exact hop.trans rfl
      · refine (hop.trans (u := { quietOp op s with cycles := (quietOp op s).cycles + 1 }) rfl).trans (ih _ ?_)
        simp only [List.mem_append]
        exact fun op' hm => hm.elim (fun hr => h op' (by simp [hr])) (op.follow_endsService _ op')

/-! ## What a quiet run leaves queued -/

/-- How many cycles a micro-op can come to, the conditional ones that it leads to included (40 R136). -/
def MicroOp.weight : MicroOp → Nat
  | .branchFetch _ => 3
  | .branchTake | .readSpeculative _ => 2
  | _ => 1

theorem MicroOp.weight_pos (op : MicroOp) : 1 ≤ op.weight := by
  cases op <;> simp [MicroOp.weight]

theorem MicroOp.weight_le (op : MicroOp) : op.weight ≤ 3 := by
  cases op <;> simp [MicroOp.weight]

/-- How many cycles a queue can come to. -/
def queueWeight (q : List MicroOp) : Nat := (q.map MicroOp.weight).sum

theorem queueWeight_le (q : List MicroOp) : queueWeight q ≤ 3 * q.length := by
  induction q with
  | nil => simp [queueWeight]
  | cons op q ih =>
    have := op.weight_le
    simp only [queueWeight, List.map_cons, List.sum_cons, List.length_cons] at ih ⊢
    omega

/-- A cycle and the conditional cycle it pushes come to no more than its weight. -/
theorem MicroOp.queueWeight_follow (op : MicroOp) (s : State) : queueWeight (op.follow s) + 1 ≤ op.weight := by
  cases op with
  | readSpeculative o | branchFetch c | branchTake =>
    simp only [MicroOp.follow]
    split <;> simp [queueWeight, MicroOp.weight]
  | _ => simp [MicroOp.follow, queueWeight, MicroOp.weight]

theorem MicroOp.mayPush_of_mayHalt {op : MicroOp} (h : op.mayHalt) : op.mayPush = false := by
  cases op with
  | readSpeculative _ | branchFetch _ | branchTake => cases h
  | _ => rfl

theorem quietOp_halted {op : MicroOp} (h : op.mayHalt = false) (s : State) :
    (quietOp op s).halted = s.halted := by
  unfold quietOp
  rw [MicroOp.effect_halted h, quietAfter_frame]

/-- Only the last micro-op pushes a conditional cycle or can halt. -/
def divergesLast (q : List MicroOp) : Bool := q.dropLast.all fun op => !op.mayPush && !op.mayHalt

theorem divergesLast_of_length_le_one {q : List MicroOp} (h : q.length ≤ 1) : divergesLast q := by
  match q, h with
  | [], _ => rfl
  | [_], _ => rfl

theorem divergesLast_cyclesOf (i : Instr) : divergesLast (cyclesOf i) := by
  cases i <;> decide

/-- A quiet run long enough for the queue's weight leaves nothing queued (40 R136, R138). -/
theorem quietRun_queue {n : Nat} {q : List MicroOp} {s : State} (hh : s.halted = none)
    (hw : queueWeight q ≤ n) (hq : divergesLast q) : (quietRun n q s).queue = [] := by
  induction n generalizing q s with
  | zero =>
    cases q with
    | nil => rfl
    | cons op rest =>
      have := op.weight_pos
      simp only [queueWeight, List.map_cons, List.sum_cons] at hw
      omega
  | succ n ih =>
    match q with
    | [] => rfl
    | [op] =>
      rw [quietRun, List.nil_append]
      split
      · next hhalt =>
        have hmay : op.mayHalt = true := by
          by_contra hno
          simp [quietOp_halted (by simpa using hno), hh] at hhalt
        exact op.follow_of_not_mayPush (MicroOp.mayPush_of_mayHalt hmay) _
      · next hhalt =>
        have hweight := op.queueWeight_follow (quietOp op s)
        refine ih (by simpa using hhalt) ?_ (divergesLast_of_length_le_one (op.follow_length _))
        simp only [queueWeight, List.map_cons, List.map_nil, List.sum_cons, List.sum_nil] at hw hweight ⊢
        omega
    | op :: op' :: rest =>
      simp only [divergesLast, List.dropLast_cons_cons, List.all_cons, Bool.and_eq_true, Bool.not_eq_true'] at hq
      obtain ⟨⟨hpush, hhalt⟩, hrest⟩ := hq
      have hnone : (quietOp op s).halted = none := by rw [quietOp_halted hhalt, hh]
      rw [quietRun_cons hnone, op.follow_of_not_mayPush hpush, List.append_nil]
      refine ih hnone ?_ (by simpa [divergesLast] using hrest)
      have := op.weight_pos
      simp only [queueWeight, List.map_cons, List.sum_cons] at hw ⊢
      omega

/-- An instruction changes no request, line, task or parameter, and leaves nothing queued (10 R40, 40 R138). -/
theorem exec_keepsRequests {i : Instr} {s t : State} (hs : s.ready) (h : exec i s = .next t) :
    KeepsRequests s t ∧ t.queue = [] := by
  obtain ⟨-, hh, -, -⟩ := s.ready_iff.1 hs
  rw [exec_of_ready hs] at h
  obtain rfl := Host.Outcome.next.inj h
  have hends : ∀ op ∈ cyclesOf i, op.endsService = false := by
    simpa using (tidyQueue_cyclesOf i).2
  exact ⟨KeepsRequests.trans (t := { s with cycles := s.cycles + 1 }) rfl (quietRun_keepsRequests _ _ hends),
    quietRun_queue hh (queueWeight_le _) (divergesLast_cyclesOf i)⟩

end Sys2Proof.Machine

namespace Sys2Proof.Machine

/-- Settles O51: each cycle of an instruction writes listed registers only, and nothing else in the ticks of its run
writes A, X, Y or S. -/
theorem registerFrame : Obligations.RegisterFrame := by
  unfold Obligations.RegisterFrame
  intro i s t hs h r hr
  obtain ⟨-, -, -, hnil⟩ := s.ready_iff.1 hs
  exact (drainClosed_reg r).exec hnil (fun op hop hmem => hr (cyclesOf_regs i op hop hmem)) h

/-- Settles O53: no cycle of an instruction writes the control state, the last of them leaves nothing queued, and only
a debug extension has a cycle that can halt. -/
theorem controlFrame : Obligations.ControlFrame := by
  unfold Obligations.ControlFrame
  intro i s t hs h
  obtain ⟨-, hh, -, hnil⟩ := s.ready_iff.1 hs
  obtain ⟨hkeeps, hqueue⟩ := exec_keepsRequests hs h
  refine ⟨?_, fun hi => (drainClosed_halted.exec hnil (cyclesOf_mayHalt hi) h).trans hh⟩
  unfold KeepsRequests at hkeeps
  rw [hqueue, ← hnil] at hkeeps
  exact hkeeps

end Sys2Proof.Machine

/-!
SUPPORT. A step from rest in a plain environment: step (a) of the quiescent point (10 R50, 40 R132), the run of a service
sequence (60 R340), and the reset sequence (60 R343).
-/

namespace Sys2Proof.Machine

/-- A tick in a plain environment runs no task: it is the CPU step and the end of the tick. -/
theorem engineTick_of_plain {s : State} (hp : s.plain) (hw : s.cfg.wellFormed) (hs : s.stopped = false) :
    engineTick s = endTick (cpuTick s) := by
  obtain ⟨-, hf⟩ := s.stopped_eq_false.1 hs
  simp [engineTick_of_wellFormed hw, tickWith, hs, startTick_of_plain hp, hf]

/-- A step from rest: the quiescent step's tick, and the run of what it queued. -/
theorem step_of_atRest {s : State} (h : s.atRest) :
    step s = .next (drainAll (endTick (quiescentStep s).pushed)) := by
  obtain ⟨hp, hh, hf, hnil, hserv, hw⟩ := s.atRest_iff.1 h
  have hs : s.stopped = false := s.stopped_eq_false.2 ⟨hh, hf⟩
  have hq : cpuStep s = quiescentStep s := by simp [cpuStep, State.quiescent, hnil, hserv]
  rw [step_of_running hw hs, engineTick_of_plain hp hw hs, cpuTick_eq_pushed, hq]

/-- The quiescent step depends on what step (a) leaves, with the record of bus cycles begun anew. -/
theorem quiescentStep_congr {s t : State}
    (h : performSnapshot { s with bus := [] } = performSnapshot { t with bus := [] }) :
    quiescentStep s = quiescentStep t := by
  unfold quiescentStep
  rw [h]

/-- Two states at rest that step (a) makes equal have the same step. -/
theorem step_congr_of_performSnapshot {s t : State} (hs : s.atRest) (ht : t.atRest)
    (h : performSnapshot { s with bus := [] } = performSnapshot { t with bus := [] }) : step s = step t := by
  rw [step_of_atRest hs, step_of_atRest ht, quiescentStep_congr h]

/-! ## A queue with no conditional cycle -/

/-- One cycle of a quiet run: a micro-op, and the cycle counted. -/
def quietCycle (s : State) (op : MicroOp) : State :=
  { quietOp op s with cycles := (quietOp op s).cycles + 1 }

/-- A quiet run of micro-ops that neither push a conditional cycle nor halt performs them one after the other. -/
theorem quietRun_straight {n : Nat} {q : List MicroOp} {s : State} (hh : s.halted = none)
    (hq : q.all fun op => !op.mayPush && !op.mayHalt) (hn : q.length ≤ n) :
    quietRun n q s = { q.foldl quietCycle s with queue := [] } := by
  induction q generalizing n s with
  | nil => exact quietRun_nil n s
  | cons op rest ih =>
    obtain ⟨n, rfl⟩ : ∃ m, n = m + 1 := ⟨n - 1, by simp only [List.length_cons] at hn; omega⟩
    simp only [List.all_cons, Bool.and_eq_true, Bool.not_eq_true'] at hq
    obtain ⟨⟨hpush, hhalt⟩, hrest⟩ := hq
    have hnone : (quietOp op s).halted = none := by rw [quietOp_halted hhalt, hh]
    rw [quietRun_cons hnone, op.follow_of_not_mayPush hpush, List.append_nil, List.foldl_cons]
    exact ih hnone (by simpa using hrest) (by simpa using hn)

/-! ## A service sequence (60 R340) -/

/-- With no snapshot pending, steps (a) and (a') only sample the interrupt lines (60 R331). -/
theorem sampled_of_snapReq_none {s : State} (h : s.snapReq = none) :
    sampleInterrupts (performSnapshot { s with bus := [] }) = s.polled := by
  simp [performSnapshot, h, sampleInterrupts, State.polled, State.nmiRequested, State.nmiNow]

/-- `s` after T1 of a service, before its cycle is counted, its other six cycles not yet queued (60 R340). -/
def State.serviced (s : State) (kind : ServiceKind) : State :=
  { s.logBus (s.readsAt s.pc) with
    nmiLatch := if kind = .reset then false else s.nmiLatch
    servicing := true
    svcKind := kind }

theorem beginService_of_plain {kind : ServiceKind} {s : State} (hp : s.plain) (hf : s.fault = none)
    (hnil : s.queue = []) : beginService kind s = { s.serviced kind with queue := serviceCycles kind } := by
  obtain ⟨-, -, -, hroom⟩ := s.plain_iff.1 hp
  obtain ⟨-, -, hlen⟩ := tidyQueue_serviceCycles kind
  unfold beginService runCycle
  rw [busAccess_of_plain (s := { s with queue := s.queue }) hp]
  dsimp only [quietByte, quietAfter]
  rw [if_neg (by simp [hf]),
    enqueue_of_room (by simp only [State.logBus_queue, State.logBus_cfg, hnil, hlen, List.length_nil]; omega)]
  simp only [State.logBus_queue, hnil]
  rfl

/-- A service that is taken at rest runs whole: T1, and the quiet run of its other six cycles (60 R340 to R343). -/
theorem step_of_service {s : State} {kind : ServiceKind} (h : s.atRest) (hsnap : s.snapReq = none)
    (hkind : pendingService s.polled = some kind) :
    step s =
      .next
        (quietRun 18 (serviceCycles kind)
          { (takeRequest kind s.polled).serviced kind with cycles := s.cycles + 1 }) := by
  obtain ⟨hp, hh, hf, hnil, -, -⟩ := s.atRest_iff.1 h
  have htake : takeRequest kind s.polled =
      { s.polled with
        nmiLatch := (takeRequest kind s.polled).nmiLatch
        resetPending := (takeRequest kind s.polled).resetPending } := by cases kind <;> rfl
  have hp' : (takeRequest kind s.polled).plain := by rw [htake]; exact hp
  have hq : quiescentStep s = .ran (beginService kind (takeRequest kind s.polled)) := by
    unfold quiescentStep
    rw [sampled_of_snapReq_none hsnap]
    simp only [hkind]
  obtain ⟨-, -, hlen⟩ := tidyQueue_serviceCycles kind
  rw [step_of_atRest h, hq, CpuStep.pushed,
    beginService_of_plain hp' (by rw [htake]; exact hf) (by rw [htake]; exact hnil),
    endTick_of_plain (by exact hp'), drainAll]
  simp only [hlen]
  refine congrArg _ (Eq.trans ?_ (drain_of_plain 18 (q := serviceCycles kind)
    (s := { (takeRequest kind s.polled).serviced kind with cycles := s.cycles + 1 }) hp' ?_ ?_ (by omega)))
  · rw [htake]; rfl
  · rw [htake]; exact hh
  · rw [htake]; exact hf

/-! ## Cycles that read -/

/-- `s` after a cycle that reads at an address, apart from what the cycle writes. -/
def State.readCycle (s : State) (addr : Word) : State :=
  { s.logBus (s.readsAt addr) with cycles := s.cycles + 1 }

theorem quietCycle_dummyPc (s : State) : quietCycle s .dummyPc = s.readCycle s.pc := rfl

theorem quietCycle_dummyStack (s : State) (back : Fin 3) :
    quietCycle s (.dummyStack back) = s.readCycle (stackAddr (s.sp - BitVec.ofNat 8 back.val)) := rfl

theorem quietCycle_vectorLo (s : State) (v : Vector) :
    quietCycle s (.vectorLo v) = (s.readCycle (vectorAddr v)).latchLo (s.memByte (vectorAddr v)) := rfl

theorem quietCycle_resetEnd (s : State) :
    quietCycle s .resetEnd =
      { ((s.readCycle 0xFFFD#16).jumpHi (s.memByte 0xFFFD#16)).resetRegisters with servicing := false } := rfl

/-! ## The reset sequence (60 R343) -/

/-- T2 to T7 of the reset sequence: three dummy reads of the stack, the vector, and the register file reinitialised. -/
theorem quietRun_reset {s : State} (hh : s.halted = none) :
    quietRun 18 (serviceCycles .reset) s =
      { s with
        a := s.cfg.resetA
        x := s.cfg.resetX
        y := s.cfg.resetY
        sp := s.cfg.resetS
        p := putFlag s.cfg.resetP .i true
        pc := wordOf (s.memByte 0xFFFD#16) (s.memByte 0xFFFC#16)
        tmp := { s.tmp with lo := s.memByte 0xFFFC#16, hi := s.memByte 0xFFFD#16 }
        servicing := false
        cycles := s.cycles + 6
        queue := []
        bus :=
          s.bus ++
            [s.readsAt s.pc, s.readsAt (stackAddr s.sp), s.readsAt (stackAddr (s.sp - 1#8)),
              s.readsAt (stackAddr (s.sp - 2#8)), s.readsAt 0xFFFC#16, s.readsAt 0xFFFD#16] } := by
  rw [quietRun_straight hh (by decide) (by decide)]
  simp only [serviceCycles, List.foldl_cons, List.foldl_nil, quietCycle_dummyPc, quietCycle_dummyStack,
    quietCycle_vectorLo, quietCycle_resetEnd]
  simp [State.readCycle, State.readsAt, State.resetRegisters, State.memByte, vectorAddr]

/-- The reset sequence from rest (60 R343). -/
theorem stepsTo_reset {s : State} (h : s.atRest) (hsnap : s.snapReq = none) (hreset : s.resetPending) :
    StepsTo s
      { s.polled with
        resetPending := false
        nmiLatch := false
        svcKind := .reset
        a := s.cfg.resetA
        x := s.cfg.resetX
        y := s.cfg.resetY
        sp := s.cfg.resetS
        p := putFlag s.cfg.resetP .i true
        pc := wordOf (s.memByte 0xFFFD#16) (s.memByte 0xFFFC#16)
        cycles := s.cycles + 7
        bus :=
          [s.readsAt s.pc, s.readsAt s.pc, s.readsAt (stackAddr s.sp), s.readsAt (stackAddr (s.sp - 1#8)),
            s.readsAt (stackAddr (s.sp - 2#8)), s.readsAt 0xFFFC#16, s.readsAt 0xFFFD#16] } := by
  obtain ⟨-, hh, -, hnil, hserv, -⟩ := s.atRest_iff.1 h
  have hkind : pendingService s.polled = some .reset := by
    simp [pendingService, State.polled, hreset]
  refine ⟨_, step_of_service h hsnap hkind, ?_⟩
  rw [quietRun_reset (by exact hh)]
  have hnil' : s.polled.queue = [] := hnil
  have hserv' : s.polled.servicing = false := hserv
  simp only [State.settled]
  rw [hnil', hserv']
  rfl

end Sys2Proof.Machine

namespace Sys2Proof.Machine

theorem powerOn_atRest (por : Image) {env : State} (hp : env.plain) (hw : env.cfg.wellFormed) :
    (State.powerOn por env).atRest := by
  obtain ⟨hmap, hdev, -, hroom⟩ := env.plain_iff.1 hp
  refine (State.atRest_iff _).2 ⟨(State.plain_iff _).2 ⟨hmap, hdev, ?_, hroom⟩, rfl, rfl, rfl, rfl, hw⟩
  simp [State.powerOn]

/-- Settles O14: power-on is a state at rest with a reset pending, and the reset sequence runs whole from there. -/
theorem powerOnRunsReset : Obligations.PowerOnRunsReset := by
  unfold Obligations.PowerOnRunsReset
  intro por env hp hw
  obtain ⟨t, hstep, ht⟩ := stepsTo_reset (powerOn_atRest por hp hw) rfl rfl
  have hflags : t.p = putFlag env.cfg.resetP .i true := congrArg State.p ht
  refine ⟨t, hstep, congrArg State.pc ht, congrArg State.a ht, congrArg State.x ht, congrArg State.y ht,
    congrArg State.sp ht, ?_, ?_, congrArg State.resetPending ht, congrArg State.nmiLatch ht,
    congrArg State.servicing ht, congrArg State.queue ht, congrArg State.halted ht, congrArg State.fault ht,
    congrArg State.cycles ht, (congrArg State.mem ht :)⟩
  · rw [hflags, getFlag_putFlag_self]
  · intro f hf
    rw [hflags, getFlag_putFlag_of_ne _ _ hf]

/-- Settles O16: step (a) makes the state with the request pending and the state with it performed equal, and nothing
of a step from rest comes before it. -/
theorem snapshotsCostNoCycle : Obligations.SnapshotsCostNoCycle := by
  unfold Obligations.SnapshotsCostNoCycle
  intro s hs
  refine ⟨fun h => ?_, fun image h => ?_⟩
  · refine step_congr_of_performSnapshot hs (by exact hs) ?_
    simp [performSnapshot, h, State.image]
  · refine step_congr_of_performSnapshot hs (by exact hs) ?_
    simp [performSnapshot, h, State.restoreImage]

/-- Settles O12: each value is the one `State.reset` is defined with (log 1, 2), and the predicates evaluate on it. -/
theorem resetState : Obligations.ResetState := by
  unfold Obligations.ResetState
  decide

end Sys2Proof.Machine

/-!
SUPPORT. Memory across the cycles of an instruction: the canonical form (20 R70), the addresses that a run of micro-ops
stores to (20 R93), and the effective address that the address cycles of each mode leave in the temporaries (20 R76 to
R79).
-/

namespace Sys2Proof.Machine

/-- A tick keeps memory in canonical form, whatever the environment does in it (20 R70). -/
theorem engineTick_memWf {s : State} (h : s.mem.wf) : (engineTick s).mem.wf := by
  unfold engineTick
  split
  · cases hs : s.stopped with
    | true => rwa [tickWith_of_stopped hs]
    | false => exact (tickWith_platform cpuTick_platform hs).2.memWf h
  · exact h

/-! ## The addresses that cycles store to (20 R72) -/

/-- The address that a micro-op stores to, if its access is a write. -/
def MicroOp.storeAddrs (op : MicroOp) (s : State) : List Word :=
  match op.access s with
  | .read _ => []
  | .write addr _ => [addr]

/-- The addresses that micro-ops store to, run one after the other in a plain environment. -/
def storesOf : List MicroOp → State → List Word
  | [], _ => []
  | op :: rest, s => op.storeAddrs s ++ storesOf rest (quietCycle s op)

theorem storesOf_append (q r : List MicroOp) (s : State) :
    storesOf (q ++ r) s = storesOf q s ++ storesOf r (q.foldl quietCycle s) := by
  induction q generalizing s with
  | nil => rfl
  | cons op q ih => simp [storesOf, ih]

/-- A micro-op changes no byte of memory but the one it stores to. -/
theorem quietOp_memByte {op : MicroOp} {s : State} {addr : Word} (h : addr ∉ op.storeAddrs s) :
    (quietOp op s).memByte addr = s.memByte addr := by
  have hmem : (quietOp op s).mem = (quietAfter s (op.access s)).mem := by
    unfold quietOp
    rw [op.effect_frame]
  unfold State.memByte
  rw [hmem]
  unfold MicroOp.storeAddrs at h
  cases hacc : op.access s with
  | read a => rfl
  | write a v =>
    rw [hacc] at h
    exact (s.memByte_setMem a addr v).trans (if_neg (by simpa using h))

/-- The micro-ops whose access is a write (40 R149 to R152, 44, 45, 60 R341). -/
def MicroOp.isStore : MicroOp → Bool
  | .writeZeroPage _ | .writeAbsolute _ | .writeBackZeroPage | .writeBackAbsolute | .modifyZeroPage _
  | .modifyAbsolute _ | .pushA | .pushP | .pushPcHi | .pushPcLo | .pushStatus _ => true
  | _ => false

theorem MicroOp.storeAddrs_of_not_isStore {op : MicroOp} (h : op.isStore = false) (s : State) :
    op.storeAddrs s = [] := by
  cases op with
  | writeZeroPage _ | writeAbsolute _ | writeBackZeroPage | writeBackAbsolute | modifyZeroPage _ | modifyAbsolute _
  | pushA | pushP | pushPcHi | pushPcLo | pushStatus _ => cases h
  | _ => rfl

theorem storesOf_of_not_isStore {q : List MicroOp} (h : q.any MicroOp.isStore = false) (s : State) :
    storesOf q s = [] := by
  induction q generalizing s with
  | nil => rfl
  | cons op q ih =>
    rw [List.any_cons, Bool.or_eq_false_iff] at h
    rw [storesOf, op.storeAddrs_of_not_isStore h.1, ih h.2, List.nil_append]

/-- A conditional cycle stores nothing (40 R136). -/
theorem MicroOp.follow_any_isStore (op : MicroOp) (s : State) : (op.follow s).any MicroOp.isStore = false := by
  cases op with
  | readSpeculative _ | branchFetch _ | branchTake =>
    simp only [MicroOp.follow]
    split <;> rfl
  | _ => rfl

/-- A quiet run changes no byte of memory but those its queue stores to, its conditional cycles included. -/
theorem quietRun_memByte (n : Nat) {q : List MicroOp} {s : State} {addr : Word} (h : addr ∉ storesOf q s) :
    (quietRun n q s).memByte addr = s.memByte addr := by
  induction n generalizing q s with
  | zero => rfl
  | succ n ih =>
    cases q with
    | nil => rfl
    | cons op rest =>
      rw [storesOf, List.mem_append, not_or] at h
      have hop := quietOp_memByte h.1
      rw [quietRun]
      split
      · exact hop
      · refine (ih ?_).trans hop
        rw [storesOf_append, storesOf_of_not_isStore (op.follow_any_isStore _), List.append_nil]
        exact h.2

/-! ## The address cycles of each mode (40 R144 to R152) -/

/-- The modes whose operand is a byte of memory at an address that the cycles compute. -/
def inMemory : Sys2Proof.Mode → Bool
  | .zeroPage | .zeroPageX | .zeroPageY | .absolute | .absoluteX | .absoluteY | .indirectX | .indirectY => true
  | .implied | .accumulator | .immediate | .indirect | .relative | .immediate2 => false

/-- The modes whose operand is in the zero page (20 R79). -/
def inZeroPage : Sys2Proof.Mode → Bool
  | .zeroPage | .zeroPageX | .zeroPageY => true
  | _ => false

/-- The cycles of class W and M that compute the effective address, a page crossing corrected (40 R149 to R152). -/
def addressCycles : Sys2Proof.Mode → List MicroOp
  | .zeroPage => [.fetchLo]
  | .zeroPageX => [.fetchLo, .indexZeroPage .x]
  | .zeroPageY => [.fetchLo, .indexZeroPage .y]
  | .absolute => [.fetchLo, .fetchHi]
  | .absoluteX => [.fetchLo, .fetchHiIndexed .x, .correctHi]
  | .absoluteY => [.fetchLo, .fetchHiIndexed .y, .correctHi]
  | .indirectX => [.fetchPtr, .indexPtr, .pointerLo, .pointerHi]
  | .indirectY => [.fetchPtr, .pointerLo, .pointerHiIndexed, .correctHi]
  | .implied | .accumulator | .immediate | .indirect | .relative | .immediate2 => []

/-- The address that the temporaries hold, `0x00:lo` or `hi:lo` by the mode. -/
def State.target (s : State) (m : Sys2Proof.Mode) : Word := if inZeroPage m then zeroPage s.tmp.lo else s.hiLo

/-! ## What the cycles of a store leave in the registers and temporaries -/

/-- A high byte with a carry added (40 R150 to R152). -/
def carried (carry : Bool) (hi : Byte) : Byte := if carry then hi + 1#8 else hi

section

variable (s : State) (addr : Word) (v : Byte)

@[simp] theorem State.readCycle_x : (s.readCycle addr).x = s.x := rfl
@[simp] theorem State.readCycle_y : (s.readCycle addr).y = s.y := rfl
@[simp] theorem State.readCycle_sp : (s.readCycle addr).sp = s.sp := rfl
@[simp] theorem State.readCycle_pc : (s.readCycle addr).pc = s.pc := rfl
@[simp] theorem State.readCycle_tmp : (s.readCycle addr).tmp = s.tmp := rfl
@[simp] theorem State.readCycle_mem : (s.readCycle addr).mem = s.mem := rfl

/-- `s` after a cycle that writes a byte at an address, apart from what the cycle writes to registers. -/
def State.writeCycle : State :=
  { (s.setMem addr v).logBus (.write addr v) with cycles := s.cycles + 1 }

@[simp] theorem State.writeCycle_sp : (s.writeCycle addr v).sp = s.sp := rfl
@[simp] theorem State.writeCycle_tmp : (s.writeCycle addr v).tmp = s.tmp := rfl

@[simp] theorem quietCycle_fetchLo :
    quietCycle s .fetchLo = ((s.readCycle s.pc).latchLo (s.memByte s.pc)).advance := rfl

@[simp] theorem quietCycle_fetchHi :
    quietCycle s .fetchHi = ((s.readCycle s.pc).latchHi (s.memByte s.pc)).advance := rfl

@[simp] theorem quietCycle_fetchHiIndexed (ix : Index) :
    quietCycle s (.fetchHiIndexed ix) =
      (((s.readCycle s.pc).latchHi (s.memByte s.pc)).advance).addIndex s.tmp.lo (s.index ix) := by
  cases ix <;> rfl

@[simp] theorem quietCycle_fetchPtr :
    quietCycle s .fetchPtr =
      { (s.readCycle s.pc).advance with tmp := { s.tmp with ptr := s.memByte s.pc } } := rfl

@[simp] theorem quietCycle_indexZeroPage (ix : Index) :
    quietCycle s (.indexZeroPage ix) = (s.readCycle (zeroPage s.tmp.lo)).latchLo (s.tmp.lo + s.index ix) := by
  cases ix <;> rfl

@[simp] theorem quietCycle_indexPtr :
    quietCycle s .indexPtr =
      { s.readCycle (zeroPage s.tmp.ptr) with tmp := { s.tmp with ptr := s.tmp.ptr + s.x } } := rfl

@[simp] theorem quietCycle_pointerLo :
    quietCycle s .pointerLo =
      (s.readCycle (zeroPage s.tmp.ptr)).latchLo (s.memByte (zeroPage s.tmp.ptr)) := rfl

@[simp] theorem quietCycle_pointerHi :
    quietCycle s .pointerHi =
      (s.readCycle (zeroPage (s.tmp.ptr + 1#8))).latchHi (s.memByte (zeroPage (s.tmp.ptr + 1#8))) := rfl

@[simp] theorem quietCycle_pointerHiIndexed :
    quietCycle s .pointerHiIndexed =
      ((s.readCycle (zeroPage (s.tmp.ptr + 1#8))).latchHi (s.memByte (zeroPage (s.tmp.ptr + 1#8)))).addIndex
        s.tmp.lo s.y := rfl

theorem MicroOp.effect_correctHi :
    MicroOp.correctHi.effect v s = s.latchHi (carried s.tmp.carry s.tmp.hi) := by
  simp only [MicroOp.effect, carried]
  split <;> rfl

@[simp] theorem quietCycle_correctHi :
    quietCycle s .correctHi = (s.readCycle s.hiLo).latchHi (carried s.tmp.carry s.tmp.hi) := by
  unfold quietCycle quietOp
  rw [MicroOp.effect_correctHi]
  rfl

@[simp] theorem quietCycle_dummyPcAdvance : quietCycle s .dummyPcAdvance = (s.readCycle s.pc).advance := rfl

@[simp] theorem quietCycle_pushPcHi :
    quietCycle s .pushPcHi = (s.writeCycle (stackAddr s.sp) (hiByte s.pc)).decS := rfl

@[simp] theorem quietCycle_pushPcLo :
    quietCycle s .pushPcLo = (s.writeCycle (stackAddr s.sp) (loByte s.pc)).decS := rfl

@[simp] theorem quietCycle_loadZeroPage :
    quietCycle s .loadZeroPage =
      { s.readCycle (zeroPage s.tmp.lo) with tmp := { s.tmp with data := s.memByte (zeroPage s.tmp.lo) } } := rfl

@[simp] theorem quietCycle_loadAbsolute :
    quietCycle s .loadAbsolute =
      { s.readCycle s.hiLo with tmp := { s.tmp with data := s.memByte s.hiLo } } := rfl

@[simp] theorem quietCycle_writeBackZeroPage :
    quietCycle s .writeBackZeroPage = s.writeCycle (zeroPage s.tmp.lo) s.tmp.data := rfl

@[simp] theorem quietCycle_writeBackAbsolute :
    quietCycle s .writeBackAbsolute = s.writeCycle s.hiLo s.tmp.data := rfl

end

/-! ## The effective address -/

theorem toNat_wordOf (hi lo : Byte) : (wordOf hi lo).toNat = 256 * hi.toNat + lo.toNat := by
  have h := BitVec.toNat_append hi lo
  rw [← Nat.shiftLeft_add_eq_or_of_lt lo.isLt, Nat.shiftLeft_eq] at h
  rw [wordOf, h]
  omega

/-- An index added to the low byte, its carry added to the high byte, is the index added to the word (40 R155). -/
theorem wordOf_addIndex (hi lo index : Byte) :
    wordOf (carried (carries lo index) hi) (lo + index) = wordOf hi lo + index.setWidth 16 := by
  have hlo := lo.isLt
  have hindex := index.isLt
  apply BitVec.eq_of_toNat_eq
  rw [BitVec.toNat_add, toNat_wordOf, toNat_wordOf, BitVec.toNat_add, BitVec.toNat_setWidth]
  by_cases h : 256 ≤ lo.toNat + index.toNat
  · have hhi := hi.isLt
    simp only [carried, carries, h, decide_true, if_true, BitVec.toNat_add, BitVec.toNat_ofNat]
    omega
  · simp only [carried, carries, h, decide_false, Bool.false_eq_true, if_false]
    omega

/-- After the address cycles the temporaries hold the effective address (20 R76 to R78, 30 R101). -/
theorem target_addressCycles {m : Sys2Proof.Mode} (hm : inMemory m) (s : State) :
    ((addressCycles m).foldl quietCycle s).target m = s.effectiveAddr m := by
  cases m with
  | zeroPage | zeroPageX | zeroPageY =>
    simp [addressCycles, State.target, inZeroPage, State.effectiveAddr, State.operand1, State.index]
  | absolute =>
    simp [addressCycles, State.target, inZeroPage, State.hiLo, State.effectiveAddr, State.operandWord, State.operand1,
      State.operand2, State.memByte]
  | absoluteX | absoluteY =>
    simp [addressCycles, State.target, inZeroPage, State.hiLo, wordOf_addIndex, State.effectiveAddr, State.operandWord,
      State.operand1, State.operand2, State.index, State.memByte]
  | indirectX =>
    simp [addressCycles, State.target, inZeroPage, State.hiLo, State.effectiveAddr, State.zeroPageWord, State.operand1,
      State.memByte]
  | indirectY =>
    simp [addressCycles, State.target, inZeroPage, State.hiLo, wordOf_addIndex, State.effectiveAddr, State.zeroPageWord,
      State.operand1, State.memByte]
  | implied | accumulator | immediate | indirect | relative | immediate2 => cases hm

theorem addressCycles_any_isStore (m : Sys2Proof.Mode) : (addressCycles m).any MicroOp.isStore = false := by
  cases m <;> rfl

/-! ## The cycles of the instructions that store -/

/-- The last cycle of class W (40 R149 to R151). -/
def storeCycles (op : WriteOp) (m : Sys2Proof.Mode) : List MicroOp :=
  if inZeroPage m then [.writeZeroPage op] else [.writeAbsolute op]

/-- The last three cycles of class M in memory (40 R152). -/
def updateCycles (op : ModifyOp) (m : Sys2Proof.Mode) : List MicroOp :=
  if inZeroPage m then [.loadZeroPage, .writeBackZeroPage, .modifyZeroPage op]
  else [.loadAbsolute, .writeBackAbsolute, .modifyAbsolute op]

theorem storesOf_storeCycles (op : WriteOp) (m : Sys2Proof.Mode) (s : State) :
    storesOf (storeCycles op m) s = [s.target m] := by
  unfold storeCycles State.target
  split <;> rfl

theorem storesOf_updateCycles (op : ModifyOp) (m : Sys2Proof.Mode) (s : State) :
    storesOf (updateCycles op m) s = [s.target m, s.target m] := by
  unfold updateCycles State.target
  split
  · simp [storesOf, MicroOp.storeAddrs, MicroOp.access]
  · simp [storesOf, MicroOp.storeAddrs, MicroOp.access, State.hiLo]

theorem storesOf_addressCycles_append (m : Sys2Proof.Mode) (q : List MicroOp) (s : State) :
    storesOf (addressCycles m ++ q) s = storesOf q ((addressCycles m).foldl quietCycle s) := by
  rw [storesOf_append, storesOf_of_not_isStore (addressCycles_any_isStore m), List.nil_append]

theorem cyclesOf_of_write {i : Instr} {op : WriteOp} (h : opClass i = .write op) :
    inMemory i.mode ∧ cyclesOf i = addressCycles i.mode ++ storeCycles op i.mode := by
  cases i <;> cases h <;> exact ⟨rfl, rfl⟩

theorem cyclesOf_of_modify {i : Instr} {op : ModifyOp} (h : opClass i = .modify op) (hm : i.mode ≠ .accumulator) :
    inMemory i.mode ∧ cyclesOf i = addressCycles i.mode ++ updateCycles op i.mode := by
  cases i with
  | aslAcc | lsrAcc | rolAcc | rorAcc => exact absurd rfl hm
  | _ => cases h <;> exact ⟨rfl, rfl⟩

/-- The instructions of 20 R93 that store: class W, class M in memory, and the pushes. -/
def storesMemory (i : Instr) : Bool :=
  match opClass i with
  | .write _ => true
  | .modify _ => decide (i.mode ≠ .accumulator)
  | .special _ => decide (i = .pha ∨ i = .php ∨ i = .jsr ∨ i = .brk)
  | .read _ | .implied _ | .branch _ | .debug _ => false

theorem cyclesOf_any_isStore (i : Instr) : (cyclesOf i).any MicroOp.isStore = storesMemory i := by
  cases i <;> rfl

theorem storesOf_cyclesOf_jsr (s : State) :
    storesOf (cyclesOf .jsr) s = [stackAddr s.sp, stackAddr (s.sp - 1#8)] := by
  simp [cyclesOf, cyclesJsr, storesOf, MicroOp.storeAddrs, MicroOp.access, quietCycle_dummyStack]

theorem storesOf_cyclesOf_brk (s : State) :
    storesOf (cyclesOf .brk) s = [stackAddr s.sp, stackAddr (s.sp - 1#8), stackAddr (s.sp - 2#8)] := by
  simp [cyclesOf, cyclesBrk, entryCycles, storesOf, MicroOp.storeAddrs, MicroOp.access, BitVec.sub_sub]

/-- The cycles of an instruction store where 20 R93 says, nowhere else. -/
theorem storesOf_cyclesOf (i : Instr) (s : State) : storesOf (cyclesOf i) s ⊆ storedAt i s := by
  by_cases hst : storesMemory i
  · cases hc : opClass i with
    | write op =>
      obtain ⟨hm, hcycles⟩ := cyclesOf_of_write hc
      rw [hcycles, storesOf_addressCycles_append, storesOf_storeCycles, target_addressCycles hm]
      simp [storedAt, hc]
    | modify op =>
      have hacc : i.mode ≠ .accumulator := by simpa [storesMemory, hc] using hst
      obtain ⟨hm, hcycles⟩ := cyclesOf_of_modify hc hacc
      rw [hcycles, storesOf_addressCycles_append, storesOf_updateCycles, target_addressCycles hm]
      simp [storedAt, hc, hacc]
    | special n =>
      have hpush : i = .pha ∨ i = .php ∨ i = .jsr ∨ i = .brk := by simpa [storesMemory, hc] using hst
      obtain rfl | rfl | rfl | rfl := hpush
      · exact List.Subset.refl _
      · exact List.Subset.refl _
      · rw [storesOf_cyclesOf_jsr]
        exact List.Subset.refl _
      · rw [storesOf_cyclesOf_brk]
        exact List.Subset.refl _
    | read _ | implied _ | branch _ | debug _ => simp [storesMemory, hc] at hst
  · rw [storesOf_of_not_isStore (by rw [cyclesOf_any_isStore]; simpa using hst)]
    exact List.nil_subset _

end Sys2Proof.Machine

namespace Sys2Proof.Machine

/-- Settles O9: a step is a number of ticks, and every tick keeps the canonical form. -/
theorem memoryFormKept : Obligations.MemoryFormKept := by
  unfold Obligations.MemoryFormKept
  exact fun s t hs h => step_keeps_of_tick (P := fun u => u.mem.wf) (fun u _ hu => engineTick_memWf hu) hs h

/-- Settles O50: a ready state runs the instruction quietly, each of its cycles changes only the byte it stores to, and
the cycles store only where 20 R93 says. -/
theorem memoryFrame : Obligations.MemoryFrame := by
  unfold Obligations.MemoryFrame
  intro i s t hs h addr haddr
  rw [exec_of_ready hs] at h
  obtain rfl := Host.Outcome.next.inj h
  exact quietRun_memByte _ fun hmem => haddr (storesOf_cyclesOf i { s with cycles := s.cycles + 1 } hmem)

end Sys2Proof.Machine

/-!
SUPPORT. The fetch at a quiescent point where nothing but an intercept precedes it (20 R84, 40 R132, R133).
-/

namespace Sys2Proof.Machine

theorem State.schedule_bus (s : State) (h : Handle) (d : Int) : (s.schedule h d).bus = s.bus := by
  unfold State.schedule
  split
  · split
    · rw [State.raise_eq]
    · rfl
  · rfl

/-- Handler code makes no bus access (20 R84). -/
theorem handlerClosed_bus : HandlerClosed fun s t => t.bus = s.bus where
  refl _ := rfl
  trans h k := k.trans h
  schedule := State.schedule_bus
  unschedule _ _ := rfl
  newTask _ _ := rfl
  requestNmi _ := rfl
  requestReset _ := rfl
  irqLines _ _ := rfl
  nmiLines _ _ := rfl
  setMem _ _ _ := rfl
  drawn _ := rfl
  setCpuReg _ r _ := by cases r <;> rfl
  snapshot _ _ := rfl

/-- With no snapshot, reset, NMI or unmasked IRQ, the quiescent step is step (d) from the sampled state (40 R132). -/
theorem quiescentStep_of_no_service {s : State} (hsnap : s.snapReq = none) (hreset : s.resetPending = false)
    (hnmi : s.nmiRequested = false) (hirq : s.irqRequested = false) :
    quiescentStep s = interceptedFetch s.polled := by
  have hnone : pendingService s.polled = none := by
    have hirq' : (!getFlag s.polled.p .i && s.polled.irqNow) = false := by
      rw [Bool.and_comm]
      exact hirq
    simp only [pendingService, hirq']
    simp [State.polled, hreset, hnmi]
  unfold quiescentStep
  rw [sampled_of_snapReq_none hsnap]
  simp only [hnone]

/-- A handler at PC decides whether the fetch follows (20 R84). -/
theorem interceptedFetch_of_handler {s : State} {h : Handler} (hat : s.handlerAt s.pc = some h) :
    interceptedFetch s =
      if (runHandler h s).2 && (runHandler h s).1.fault.isNone then fetchDecode (runHandler h s).1
      else .ran (runHandler h s).1 := by
  simp [interceptedFetch, processIntercepts, hat]

/-- The fetch of a registered opcode in a plain environment (40 R133). -/
theorem fetchDecode_of_plain {s : State} {i : Instr} (hp : s.plain) (hf : s.fault = none)
    (hi : decodeOpcode s.cfg (s.memByte s.pc) = some i) :
    fetchDecode s = .fetched i (opcodeRead (s.memByte s.pc) (s.logBus (s.readsAt s.pc))) := by
  unfold fetchDecode
  rw [busRead_of_plain hp]
  simp [hf, hi, State.readsAt]

/-- The writes of T1 after a fetch whose access is the first on the record of bus cycles (40 R133). -/
theorem opcodeRead_logBus {s : State} (h : s.bus = []) (opcode : Byte) (c : BusCycle) :
    opcodeRead opcode (s.logBus c) =
      { s with pc := s.pc + 1#16, tmp := { s.tmp with opcode := opcode }, bus := [c] } := by
  simp [opcodeRead, State.advance, State.logBus, h]

/-- A step from rest where an intercept at PC is all that precedes the fetch (60 R335). -/
theorem step_of_handler {s : State} {h : Handler} (hs : s.atRest) (hsnap : s.snapReq = none)
    (hreset : s.resetPending = false) (hnmi : s.nmiRequested = false) (hirq : s.irqRequested = false)
    (hat : s.handlerAt s.pc = some h) :
    step s =
      .next (drainAll (endTick (CpuStep.pushed
        (if (runHandler h s.polled).2 && (runHandler h s.polled).1.fault.isNone then
          fetchDecode (runHandler h s.polled).1
        else .ran (runHandler h s.polled).1)))) := by
  rw [step_of_atRest hs, quiescentStep_of_no_service hsnap hreset hnmi hirq,
    interceptedFetch_of_handler (s := s.polled) hat]

end Sys2Proof.Machine

namespace Sys2Proof.Machine

/-- Settles O17: nothing of the quiescent step comes before the handler, which leaves the queue and the record of bus
cycles alone; its answer decides between the end of the tick and the fetch. -/
theorem interceptAtFetch : Obligations.InterceptAtFetch := by
  unfold Obligations.InterceptAtFetch
  intro s h hs hsnap hreset hnmi hirq hat t proceeds
  obtain ⟨-, -, -, hnil, hserv, -⟩ := s.atRest_iff.1 hs
  have hstep := step_of_handler hs hsnap hreset hnmi hirq hat
  have hk : KeepsControl s.polled t := KeepsControl.closed.runHandler h s.polled
  have hqueue : t.queue = [] := hk.queue.trans hnil
  have hbus : t.bus = [] := handlerClosed_bus.runHandler h s.polled
  refine ⟨fun hno hphase => ⟨?_, hbus, ?_⟩, fun hyes hp hf i hi => ?_⟩
  · have hend : endTick t = { t with cycles := s.cycles + 1 } := by
      rw [endTick, if_neg (by simp [hk.platform.cfg, State.polled, hphase]), hk.platform.cycles]
      rfl
    rw [hstep, if_neg (by simp [show (runHandler h s.polled).2 = false from hno])]
    change Host.Outcome.next (drainAll (endTick t)) = _
    rw [hend, drainAll]
    simp [hqueue, drain]
  · simp [State.quiescent, hqueue, hk.servicing, State.polled, hserv]
  · have hgoes : ((runHandler h s.polled).2 && (runHandler h s.polled).1.fault.isNone) = true := by
      rw [Bool.and_eq_true, Option.isNone_iff_eq_none]
      exact ⟨hyes, hf⟩
    rw [hstep, if_pos hgoes, fetchDecode_of_plain hp hf hi, opcodeRead_logBus hbus, exec_eq_runInstr]
    rfl

end Sys2Proof.Machine

/-!
SUPPORT. Decode and encode as inverses (30 R105, R110, R112): which opcodes decode to an instruction, which decode to
none, what `encode` answers for a registered instruction, and that the operand's bytes spell it.
-/

namespace Sys2Proof

/-! ## The opcode byte (30 R103, R105, R107) -/

/-- The per-instruction laws of Laws/PerInstr.lean together. -/
theorem encodingStatement (i : Instr) : Laws.Encoding.Statement i := by
  cases i
  case halt => exact Laws.Encoding.halt
  case test => exact Laws.Encoding.test
  case trap => exact Laws.Encoding.trap
  all_goals exact Laws.Encoding.of_documented (fun _ => rfl) (by decide)

theorem Instr.opcode_of_not_debug {i : Instr} (h : i.isDebug = false) (cfg : Config) :
    i.opcode cfg = i.opcode {} := by
  cases i
  case halt | test | trap => cases h
  all_goals rfl

/-- The map of 30 R103 lists each opcode in its own cell, and no debug extension. -/
theorem opcode_of_documented {b : Byte} {i : Instr} (h : documented b = some i) (cfg : Config) :
    i.isDebug = false ∧ i.opcode cfg = b := by
  have cells : ∀ b : Byte, ∀ i ∈ documented b, i.isDebug = false ∧ i.opcode {} = b := by decide +kernel
  obtain ⟨hd, ho⟩ := cells b i h
  exact ⟨hd, (Instr.opcode_of_not_debug hd cfg).trans ho⟩

/-- A byte decodes to an instruction exactly where that is registered and the byte is its opcode (30 R105, R112). -/
theorem decodeOpcode_eq_some {cfg : Config} (hw : cfg.wellFormed) {b : Byte} {i : Instr} :
    decodeOpcode cfg b = some i ↔ i.registered cfg ∧ i.opcode cfg = b := by
  constructor
  · intro h
    unfold decodeOpcode at h
    split at h
    case h_1 j hj =>
      obtain rfl := Option.some.inj h
      obtain ⟨hd, ho⟩ := opcode_of_documented hj cfg
      exact ⟨by simp [Instr.registered, hd], ho⟩
    case h_2 =>
      split_ifs at h with hext hhalt htest htrap
      all_goals obtain rfl := Option.some.inj h
      · exact ⟨by simp [Instr.registered, hext], hhalt.symm⟩
      · exact ⟨by simp [Instr.registered, hext], htest.symm⟩
      · exact ⟨by simp [Instr.registered, hext], htrap.symm⟩
  · rintro ⟨hr, rfl⟩
    exact (encodingStatement i).1 cfg hw hr

/-- A byte does not decode exactly where the map of 30 R103 has no instruction for it and it is no registered debug
opcode (30 R106, R107). -/
theorem decodeOpcode_eq_none {cfg : Config} {b : Byte} :
    decodeOpcode cfg b = none ↔
      documented b = none ∧ (cfg.debugExt → b ≠ cfg.opcHalt ∧ b ≠ cfg.opcTest ∧ b ≠ cfg.opcTrap) := by
  unfold decodeOpcode
  cases documented b with
  | some i => simp
  | none =>
    cases cfg.debugExt with
    | false => simp
    | true => simp only [true_and, if_true, forall_const]; split_ifs <;> simp [*]

/-- The bytes that the opcode map of 30 R103 leaves without an instruction, in rising order (30 R106). -/
def emptyCells : List Nat :=
  (List.range 256).filter fun n => (documented (BitVec.ofNat 8 n)).isNone

theorem mem_emptyCells {b : Byte} : b.toNat ∈ emptyCells ↔ documented b = none := by
  simp [emptyCells, b.isLt]

/-! ## The operand bytes (30 R102, R110) -/

theorem operandOfBytes_operandToBytes {n operand : Nat} (h : operand < 256 ^ n) :
    operandOfBytes (operandToBytes n operand) = operand := by
  induction n generalizing operand with
  | zero => simpa [operandToBytes, operandOfBytes, eq_comm] using h
  | succ n ih =>
    have hhigh : operand / 256 < 256 ^ n := Nat.div_lt_of_lt_mul (by rwa [← Nat.pow_succ'])
    rw [operandToBytes, operandOfBytes, ih hhigh, BitVec.toNat_ofNat]
    exact Nat.mod_add_div operand 256

theorem Instr.operandFits_iff {i : Instr} {operand : Nat} :
    i.operandFits operand ↔ operand < 256 ^ i.operandBytes := decide_eq_true_iff

theorem Instr.operandFits_zero (i : Instr) : i.operandFits 0 :=
  i.operandFits_iff.2 (Nat.pow_pos (by decide))

/-! ## The whole instruction (30 R100, R110) -/

theorem encode_unregistered {cfg : Config} {m : Mnemonic} {mode : Mode} (h : keyOf cfg m mode = none)
    (operand : Nat) : encode cfg m mode operand = .error .unregistered := by
  simp [encode, h]

/-- What `encode` answers for a registered instruction (30 R110). -/
theorem encode_registered {cfg : Config} {i : Instr} (hr : i.registered cfg) (operand : Nat) :
    encode cfg i.mnemonic i.mode operand =
      if i.operandFits operand then .ok (i.opcode cfg :: operandToBytes i.operandBytes operand)
      else .error .operandOutOfRange := by
  simp only [encode, keyOf_eq_some.2 ⟨hr, rfl, rfl⟩, Instr.operandFits_iff, ← not_lt, ite_not]
  rfl

/-- An opcode and as many bytes as its instruction takes decode to it, whatever follows (30 R100, R105). -/
theorem decode_opcode_append {cfg : Config} {b : Byte} {i : Instr} (hi : decodeOpcode cfg b = some i)
    {bs : List Byte} (hn : bs.length = i.operandBytes) (rest : List Byte) :
    decode cfg (b :: bs ++ rest) = .ok (i, operandOfBytes bs, rest) := by
  simp [decode, hi, ← hn]

end Sys2Proof

namespace Sys2Proof

/-- Settles O2: the opcode byte decodes to the instruction, the operand bytes spell the operand, and a pair's key says
which of the two errors is met. -/
theorem encodeDecodeRoundTrip : Obligations.EncodeDecodeRoundTrip := by
  unfold Obligations.EncodeDecodeRoundTrip
  intro cfg operand
  refine ⟨fun i rest h => ?_, fun m mode h => encode_unregistered (keyOf_eq_none.2 h) operand, fun i hr hf => ?_⟩
  · simp only [Instr.wellFormed, Bool.and_eq_true] at h
    obtain ⟨⟨hw, hr⟩, hf⟩ := h
    obtain ⟨hopcode, hlength⟩ := encodingStatement i
    refine ⟨i.opcode cfg :: operandToBytes i.operandBytes operand, ?_, hlength operand, ?_⟩
    · rw [encode_registered hr, if_pos hf]
    · rw [decode_opcode_append (hopcode cfg hw hr) (Laws.Encoding.length_operandToBytes _ _),
        operandOfBytes_operandToBytes (Instr.operandFits_iff.1 hf)]
  · rw [encode_registered hr, if_neg (by simp [hf])]

/-- Settles O1: an opcode decodes exactly to the registered instruction whose opcode it is, and no two instructions
share a pair. -/
theorem registryRoundTrip : Obligations.RegistryRoundTrip := by
  unfold Obligations.RegistryRoundTrip
  intro cfg hw
  refine ⟨fun b => ?_, fun b c k l hk hl hm hd => ?_, fun m mode k hk => ?_⟩
  · cases h : decodeOpcode cfg b with
    | none => exact .inl rfl
    | some k =>
      obtain ⟨hr, rfl⟩ := (decodeOpcode_eq_some hw).1 h
      exact .inr ⟨k, _, rfl, by rw [encode_registered hr, if_pos k.operandFits_zero]⟩
  · obtain ⟨-, rfl⟩ := (decodeOpcode_eq_some hw).1 hk
    obtain ⟨-, rfl⟩ := (decodeOpcode_eq_some hw).1 hl
    rw [Instr.eq_of_pair hm hd]
  · obtain ⟨hr, hm, hd⟩ := keyOf_eq_some.1 hk
    exact ⟨hm, hd, k.opcode cfg, (decodeOpcode_eq_some hw).2 ⟨hr, rfl⟩,
      fun c hc => ((decodeOpcode_eq_some hw).1 hc).2.symm⟩

/-- Settles O3: the listed bytes are those that the opcode map leaves empty. -/
theorem undocumentedOpcodes : Obligations.UndocumentedOpcodes := by
  unfold Obligations.UndocumentedOpcodes
  intro bytes
  have hmem (b : Byte) : b.toNat ∈ bytes ↔ documented b = none := by
    have hbytes : bytes = emptyCells := by
      unfold bytes
      decide +kernel
    rw [hbytes, mem_emptyCells]
  refine ⟨rfl, fun b => ?_, fun b => ?_⟩
  · simp [decodeOpcode_eq_none, hmem]
  · simp [decodeOpcode_eq_none, hmem, BitVec.toNat_eq]

/-- Settles O4: each opcode is looked up in the map (0x12 is TEST's default), and its mode's operand bytes follow. -/
theorem wordsDecode : Obligations.WordsDecode := by
  unfold Obligations.WordsDecode
  refine ⟨decode_opcode_append (bs := [0x42]) ?_ ?_ [],
    decode_opcode_append (bs := [0x00, 0x20]) ?_ ?_ [],
    decode_opcode_append (bs := [0x80]) ?_ ?_ [],
    decode_opcode_append (bs := [0x34, 0x12]) ?_ ?_ [],
    decode_opcode_append (bs := []) ?_ ?_ [],
    decode_opcode_append (bs := [0xFF, 0x02]) ?_ ?_ [],
    decode_opcode_append (bs := [0xFB]) ?_ ?_ [],
    decode_opcode_append (bs := []) ?_ ?_ [],
    decode_opcode_append (bs := [0x03, 0x01]) ?_ ?_ []⟩ <;> decide

end Sys2Proof

/-!
SUPPORT. The drain of a step is long enough: each of its ticks stops the engine or leaves fewer cycles to come (40 R134,
R136, R138).
-/

namespace Sys2Proof.Machine

theorem State.raise_fault_isSome (s : State) (f : Fault) : (s.raise f).fault.isSome := by
  unfold State.raise
  split
  · assumption
  · rfl

/-- A micro-op at the head of the queue either faults or leaves fewer cycles to come (40 R134, R136). -/
theorem runMicroOp_weight (op : MicroOp) (rest : List MicroOp) (s : State) :
    (runMicroOp op rest s).fault.isSome ∨ queueWeight (runMicroOp op rest s).queue < queueWeight (op :: rest) := by
  unfold runMicroOp
  obtain ⟨f, -, hr⟩ | ⟨v, t, ha, ⟨hf, hr⟩ | ⟨-, hr, -⟩ | ⟨-, hr⟩⟩ :=
    runCycle_cases s rest (op.access s) (fun v t => op.effect v t) (fun t => op.follow t)
  · exact .inl (hr ▸ s.raise_fault_isSome f)
  · exact .inl (hr ▸ hf)
  · exact .inl (hr ▸ s.raise_fault_isSome _)
  · have hqueue : (op.effect v t).queue = rest := by rw [op.effect_frame]; exact (busAccess_keeps ha).queue
    have hfollow := op.queueWeight_follow (op.effect v t)
    rw [hr]
    simp only [hqueue, queueWeight, List.map_append, List.sum_append, List.map_cons, List.sum_cons] at hfollow ⊢
    omega

/-- A tick of the drain stops the engine or leaves fewer cycles to come. -/
theorem microTick_weight {s : State} (hq : s.queue ≠ []) :
    (microTick s).stopped ∨ queueWeight (microTick s).queue < queueWeight s.queue := by
  obtain ⟨op, rest, hop⟩ := List.exists_cons_of_ne_nil hq
  have hk := startTick_keeps s
  have hcpu : cpuMicroOp (startTick s) = runMicroOp op rest (startTick s) := by
    simp only [cpuMicroOp, hk.queue, hop]
  unfold microTick tickWith
  split
  · next hs => exact .inl hs
  · split
    · next hf => exact .inl (endTick_stopped_of_fault hf)
    · rw [(endTick_keeps _).2.queue, hcpu, hop]
      exact (runMicroOp_weight op rest _).imp_left endTick_stopped_of_fault

theorem queueWeight_eq_zero {q : List MicroOp} : queueWeight q = 0 ↔ q = [] := by
  cases q with
  | nil => simp [queueWeight]
  | cons op rest =>
    have := op.weight_pos
    simp [queueWeight]
    omega

/-- A drain at least as long as the queue's weight ends in a stop or with nothing queued (40 R136, R138). -/
theorem drain_ends {n : Nat} {s : State} (hn : queueWeight s.queue ≤ n) :
    (drain n s).stopped ∨ (drain n s).queue = [] := by
  induction n generalizing s with
  | zero => exact .inr (queueWeight_eq_zero.1 (Nat.le_zero.1 hn))
  | succ n ih =>
    rw [drain]
    split
    · next h => simpa [or_comm] using h
    · next h =>
      have hq : s.queue ≠ [] := fun hnil => h (by simp [hnil])
      obtain hs | hw := microTick_weight hq
      · rw [drain_of_stopped n hs]
        exact .inl hs
      · exact ih (by omega)

end Sys2Proof.Machine

namespace Sys2Proof.Machine

/-- Settles O6: the first tick of a step is the engine's, and so is each tick of the drain that follows it. -/
theorem stepIsEngineTicks : Obligations.StepIsEngineTicks := by
  unfold Obligations.StepIsEngineTicks
  refine fun s => ⟨fun hw hs => ?_, fun hw => ⟨by simp [step, stepFront, hw], engineTick_of_illFormed hw⟩⟩
  obtain ⟨k, hk⟩ := drain_eq_ticks (3 * (engineTick s).queue.length) (s := engineTick s) (by rwa [engineTick_cfg])
  exact ⟨k, by rw [step_of_running hw hs, drainAll, hk, Function.iterate_succ_apply]⟩

/-- Settles O7: the drain of a step is long enough for whatever its first tick queued, and a queue that is empty has no
end of a service left in it. -/
theorem stepEndsAtAQuiescentPoint : Obligations.StepEndsAtAQuiescentPoint := by
  unfold Obligations.StepEndsAtAQuiescentPoint
  intro s t hinv h
  cases hs : s.stopped with
  | true => exact .inl (by rwa [step_of_stopped hs h])
  | false =>
    have ht := Host.Outcome.next.inj ((step_of_running (wellFormed_of_step h) hs).symm.trans h)
    obtain hstop | hnil := drain_ends (queueWeight_le (engineTick s).queue)
    · exact .inl (ht ▸ hstop)
    · obtain ⟨-, hserv, -⟩ := t.queueInv_iff.1 (queueInvariantKept.2 s t hinv h)
      have hnil' : t.queue = [] := ht ▸ hnil
      exact .inr (by simp [State.quiescent, hserv, hnil'])

/-- Settles O11: whatever a CPU step does, it leaves the counter to the end of its tick. -/
theorem tickCountsOneCycle : Obligations.TickCountsOneCycle := by
  unfold Obligations.TickCountsOneCycle
  refine fun s => ⟨fun hw hh hf => ?_, fun hs n => Function.iterate_fixed ?_ n⟩
  · rw [engineTick_of_wellFormed hw]
    exact (tickWith_platform cpuTick_platform (s.stopped_eq_false.2 ⟨hh, hf⟩)).1
  · have hstop : s.stopped = true := by simpa [State.stopped, Option.isSome_iff_ne_none] using hs
    cases hw : s.cfg.wellFormed with
    | true => rw [engineTick_of_wellFormed hw, tickWith_of_stopped hstop]
    | false => exact engineTick_of_illFormed hw

end Sys2Proof.Machine

/-!
SUPPORT. A step from rest that fetches an instruction is `exec` of it (40 R132, R133), and the bytes behind its opcode
spell its operand (30 R102, R105).
-/

namespace Sys2Proof.Machine

theorem State.nothingPending_iff (s : State) :
    s.nothingPending ↔ s.snapReq = none ∧ s.resetPending = false ∧ s.nmiRequested = false ∧
      s.irqRequested = false ∧ s.handlerAt s.pc = none := by
  simp [State.nothingPending, and_assoc]

/-- With no intercept at PC, step (d) is the fetch (40 R132). -/
theorem interceptedFetch_of_no_handler {s : State} (hat : s.handlerAt s.pc = none) (hf : s.fault = none) :
    interceptedFetch s = fetchDecode s := by
  simp [interceptedFetch, processIntercepts, hat, hf]

theorem State.fetched_ready {s : State} (h : s.atRest) : s.fetched.ready := by
  obtain ⟨hp, hh, hf, hnil, -, -⟩ := s.atRest_iff.1 h
  exact s.fetched.ready_iff.2 ⟨hp, hh, hf, hnil⟩

/-- A step that fetches an instruction is `exec` of it from the fetched state (40 R133). -/
theorem step_of_fetches {s : State} {i : Instr} (h : s.fetches i) : step s = exec i s.fetched := by
  obtain ⟨hrest, hpend, hi⟩ := h
  obtain ⟨hp, -, hf, -, -, -⟩ := s.atRest_iff.1 hrest
  obtain ⟨hsnap, hreset, hnmi, hirq, hat⟩ := s.nothingPending_iff.1 hpend
  have hfetch : quiescentStep s = .fetched i s.fetched := by
    rw [quiescentStep_of_no_service hsnap hreset hnmi hirq,
      interceptedFetch_of_no_handler (s := s.polled) hat hf, fetchDecode_of_plain (s := s.polled) hp hf hi,
      opcodeRead_logBus rfl]
    rfl
  rw [step_of_atRest hrest, hfetch, exec_eq_runInstr]
  rfl

theorem stepsTo_of_fetches {s t : State} {i : Instr} (h : s.fetches i) (he : EndsInWithBus i s.fetched t) :
    StepsTo s t := by
  rwa [StepsTo, step_of_fetches h]

/-- The second operand byte as the tables of 40 R144 to R152 address it, from the opcode's own address. -/
theorem word_add_two (w : Word) : w + 2#16 = w + 1#16 + 1#16 := (BitVec.add_assoc w 1#16 1#16).symm

/-- PC behind the operand bytes is PC behind the whole instruction (30 R100). -/
theorem word_add_length (w : Word) (n : Nat) : w + 1#16 + BitVec.ofNat 16 n = w + BitVec.ofNat 16 (1 + n) := by
  rw [BitVec.add_assoc, BitVec.ofNat_add]

end Sys2Proof.Machine

namespace Sys2Proof

theorem operandToBytes_operandOfBytes (bs : List Byte) : operandToBytes bs.length (operandOfBytes bs) = bs := by
  induction bs with
  | nil => rfl
  | cons b bs ih =>
    have hb := b.isLt
    have hhigh : (b.toNat + 256 * operandOfBytes bs) / 256 = operandOfBytes bs := by omega
    have hlow : BitVec.ofNat 8 (b.toNat + 256 * operandOfBytes bs) = b :=
      BitVec.eq_of_toNat_eq (by rw [BitVec.toNat_ofNat]; omega)
    simp only [List.length_cons, operandToBytes, operandOfBytes, hhigh, hlow, ih]

/-- What decodes is an opcode's instruction, and the operand that its bytes spell (30 R100, R105). -/
theorem decode_cons_eq_ok {cfg : Config} {b : Byte} {bs rest : List Byte} {i : Instr} {operand : Nat}
    (h : decode cfg (b :: bs) = .ok (i, operand, rest)) :
    decodeOpcode cfg b = some i ∧ operandToBytes i.operandBytes operand = bs.take i.operandBytes := by
  simp only [decode] at h
  split at h
  · cases h
  · next j hj =>
    split at h
    · cases h
    · next hlen =>
      simp only [Except.ok.injEq, Prod.mk.injEq] at h
      obtain ⟨rfl, rfl, -⟩ := h
      have htake : (bs.take j.operandBytes).length = j.operandBytes := by simp; omega
      refine ⟨hj, ?_⟩
      have := operandToBytes_operandOfBytes (bs.take j.operandBytes)
      rwa [htake] at this

end Sys2Proof

namespace Sys2Proof.Machine

/-- Settles O5: nothing precedes the fetch, the opcode decodes as the whole word does, and an operand's bytes are
those it was read from. -/
theorem stepRunsTheDecodedInstruction : Obligations.StepRunsTheDecodedInstruction := by
  unfold Obligations.StepRunsTheDecodedInstruction
  intro s i operand rest hrest hpend hdecode
  obtain ⟨hi, hbytes⟩ := decode_cons_eq_ok hdecode
  rw [word_add_two] at hbytes
  exact ⟨step_of_fetches ⟨hrest, hpend, hi⟩, State.fetched_ready hrest, hbytes⟩

end Sys2Proof.Machine

/-!
SUPPORT. The cycle tables of the classes I, R, W and M from a ready state: what the address cycles of each mode read and
leave, and what the cycles after them do (40 R142 to R153).
-/

namespace Sys2Proof.Machine

/-! ## Cycles performed one after the other -/

theorem quietCycle_queue (s : State) (op : MicroOp) : (quietCycle s op).queue = s.queue := by
  unfold quietCycle
  rw [quietOp_frame]

theorem foldl_quietCycle_queue (q : List MicroOp) (s : State) : (q.foldl quietCycle s).queue = s.queue := by
  induction q generalizing s with
  | nil => rfl
  | cons op q ih => rw [List.foldl_cons, ih, quietCycle_queue]

/-- From a state with nothing queued, micro-ops that neither push a conditional cycle nor halt leave the state that
their cycles give one after the other. -/
theorem quietRun_eq_foldl {n : Nat} {q : List MicroOp} {s : State} (hh : s.halted = none) (hnil : s.queue = [])
    (hq : q.all fun op => !op.mayPush && !op.mayHalt) (hn : q.length ≤ n) :
    quietRun n q s = q.foldl quietCycle s := by
  have hqueue : (q.foldl quietCycle s).queue = [] := (foldl_quietCycle_queue q s).trans hnil
  rw [quietRun_straight hh hq hn, ← hqueue]

/-- Micro-ops that neither push a conditional cycle nor halt, ahead of others, are performed one after the other. -/
theorem quietRun_append {n : Nat} {q r : List MicroOp} {s : State} (hh : s.halted = none)
    (hq : q.all fun op => !op.mayPush && !op.mayHalt) :
    quietRun (q.length + n) (q ++ r) s = quietRun n r (q.foldl quietCycle s) := by
  induction q generalizing r s with
  | nil => simp
  | cons op rest ih =>
    simp only [List.all_cons, Bool.and_eq_true, Bool.not_eq_true'] at hq
    obtain ⟨⟨hpush, hhalt⟩, hrest⟩ := hq
    have hnone : (quietOp op s).halted = none := by rw [quietOp_halted hhalt, hh]
    rw [List.length_cons, Nat.add_right_comm, List.cons_append, quietRun_cons hnone,
      op.follow_of_not_mayPush hpush, List.append_nil, List.foldl_cons]
    exact ih hnone (by simpa using hrest)

/-- `s` with T1's cycle counted. -/
def State.counted (s : State) : State := { s with cycles := s.cycles + 1 }

/-- An instruction without a conditional cycle performs its cycles one after the other. -/
theorem exec_straight {i : Instr} {s : State} (h : s.ready)
    (hq : (cyclesOf i).all fun op => !op.mayPush && !op.mayHalt) :
    exec i s = .next ((cyclesOf i).foldl quietCycle s.counted) := by
  obtain ⟨-, hh, -, hnil⟩ := s.ready_iff.1 h
  rw [exec_of_ready h]
  exact congrArg _ (quietRun_eq_foldl hh hnil hq (Nat.le_mul_of_pos_left _ (by decide)))

/-- An instruction whose last cycle alone may push another: the cycles before it one after the other, then that
one. -/
theorem exec_append {i : Instr} {s : State} {q : List MicroOp} {op : MicroOp} (h : s.ready)
    (hi : cyclesOf i = q ++ [op]) (hq : q.all fun op => !op.mayPush && !op.mayHalt) :
    exec i s = .next (quietRun (2 * q.length + 3) [op] (q.foldl quietCycle s.counted)) := by
  obtain ⟨-, hh, -, -⟩ := s.ready_iff.1 h
  have hlen : 3 * (q ++ [op]).length = q.length + (2 * q.length + 3) := by
    rw [List.length_append, List.length_singleton]
    omega
  rw [exec_of_ready h, hi, hlen]
  exact congrArg _ (quietRun_append hh hq)

/-! ## The address cycles of each mode (40 R144 to R152) -/

/-- The modes whose index addition can cross a page (40 R146, R148, R150 to R152). -/
def mayCross : Sys2Proof.Mode → Bool
  | .absoluteX | .absoluteY | .indirectY => true
  | _ => false

/-- The address cycles without the correction of the high byte, as class R performs them (40 R144 to R148). -/
def uncorrectedCycles : Sys2Proof.Mode → List MicroOp
  | .absoluteX => [.fetchLo, .fetchHiIndexed .x]
  | .absoluteY => [.fetchLo, .fetchHiIndexed .y]
  | .indirectY => [.fetchPtr, .pointerLo, .pointerHiIndexed]
  | m => addressCycles m

theorem addressCycles_eq (m : Sys2Proof.Mode) :
    addressCycles m = uncorrectedCycles m ++ if mayCross m then [.correctHi] else [] := by
  cases m <;> rfl

theorem uncorrectedCycles_straight (m : Sys2Proof.Mode) :
    (uncorrectedCycles m).all fun op => !op.mayPush && !op.mayHalt := by
  cases m <;> rfl

theorem addressCycles_straight (m : Sys2Proof.Mode) :
    (addressCycles m).all fun op => !op.mayPush && !op.mayHalt := by
  cases m <;> rfl

theorem inMemory_of_mayCross {m : Sys2Proof.Mode} (hm : mayCross m) : inMemory m ∧ inZeroPage m = false := by
  cases m with
  | absoluteX | absoluteY | indirectY => exact ⟨rfl, rfl⟩
  | _ => cases hm

/-- The reads that the address cycles make before any correction, from a state whose PC points to the operand. -/
def State.addressReads (s : State) : Sys2Proof.Mode → List BusCycle
  | .zeroPage => [s.readsAt s.pc]
  | .zeroPageX | .zeroPageY => [s.readsAt s.pc, s.readsAt (zeroPage s.operand1)]
  | .absolute | .absoluteX | .absoluteY => [s.readsAt s.pc, s.readsAt (s.pc + 1#16)]
  | .indirectX =>
    [s.readsAt s.pc, s.readsAt (zeroPage s.operand1), s.readsAt (zeroPage (s.operand1 + s.x)),
      s.readsAt (zeroPage (s.operand1 + s.x + 1#8))]
  | .indirectY => [s.readsAt s.pc, s.readsAt (zeroPage s.operand1), s.readsAt (zeroPage (s.operand1 + 1#8))]
  | .implied | .accumulator | .immediate | .indirect | .relative | .immediate2 => []

/-- The address before any correction: the index addition stays in the low byte. -/
def State.uncorrectedAddr (s : State) : Sys2Proof.Mode → Word
  | .absoluteX => wordOf s.operand2 (s.operand1 + s.x)
  | .absoluteY => wordOf s.operand2 (s.operand1 + s.y)
  | .indirectY => wordOf (s.memByte (zeroPage (s.operand1 + 1#8))) (s.memByte (zeroPage s.operand1) + s.y)
  | m => s.effectiveAddr m

/-- The reads of class W and M before the first access at the effective address: in the modes that may cross a page
one is at the unadjusted high byte, whether or not the addition carries (40 R149 to R152). -/
def State.storeReads (s : State) (m : Sys2Proof.Mode) : List BusCycle :=
  s.addressReads m ++ if mayCross m then [s.readsAt (s.uncorrectedAddr m)] else []

/-- The reads of class R after the opcode's: one at the unadjusted high byte where the index addition carries, and the
last at the effective address (40 R144 to R148). -/
def State.dataReads (s : State) (m : Sys2Proof.Mode) : List BusCycle :=
  s.addressReads m ++ (if s.crossesPage m then [s.readsAt (s.uncorrectedAddr m)] else []) ++
    [s.readsAt (s.effectiveAddr m)]

/-- The address with a carry of the index addition in the high byte, which wraps (40 R146, R148). -/
def State.correctedAddr (s : State) : Sys2Proof.Mode → Word
  | .absoluteX => wordOf (s.operand2 + 1#8) (s.operand1 + s.x)
  | .absoluteY => wordOf (s.operand2 + 1#8) (s.operand1 + s.y)
  | .indirectY => wordOf (s.memByte (zeroPage (s.operand1 + 1#8)) + 1#8) (s.memByte (zeroPage s.operand1) + s.y)
  | m => s.effectiveAddr m

theorem effectiveAddr_of_not_crossesPage {s : State} {m : Sys2Proof.Mode} (h : s.crossesPage m = false) :
    s.effectiveAddr m = s.uncorrectedAddr m := by
  cases m with
  | absoluteX | absoluteY | indirectY =>
    exact (wordOf_addIndex _ _ _).symm.trans (by rw [show carries _ _ = false from h]; rfl)
  | _ => rfl

theorem effectiveAddr_of_crossesPage {s : State} {m : Sys2Proof.Mode} (h : s.crossesPage m) :
    s.effectiveAddr m = s.correctedAddr m := by
  cases m with
  | absoluteX | absoluteY | indirectY =>
    exact (wordOf_addIndex _ _ _).symm.trans (by rw [show carries _ _ = true from h]; rfl)
  | _ => rfl

/-- `s` after cycles that only read: PC and the temporaries as given, the reads recorded and counted. -/
def State.afterReads (s : State) (pc : Word) (tmp : Temps) (reads : List BusCycle) : State :=
  { s with pc := pc, tmp := tmp, cycles := s.cycles + reads.length, bus := s.bus ++ reads }

theorem State.afterReads_readCycle (s : State) (pc : Word) (tmp : Temps) (reads : List BusCycle) (addr : Word) :
    (s.afterReads pc tmp reads).readCycle addr = s.afterReads pc tmp (reads ++ [s.readsAt addr]) := by
  simp [State.afterReads, State.readCycle, State.logBus, State.readsAt, State.memByte, Nat.add_assoc]

@[simp] theorem State.afterReads_tmp (s : State) (pc : Word) (tmp : Temps) (reads : List BusCycle) :
    (s.afterReads pc tmp reads).tmp = tmp := rfl

theorem State.afterReads_latchHi (s : State) (pc : Word) (tmp : Temps) (reads : List BusCycle) (v : Byte) :
    (s.afterReads pc tmp reads).latchHi v = s.afterReads pc { tmp with hi := v } reads := rfl

/-- The temporaries that the address cycles of a mode leave, before any correction. -/
def State.addressTemps (s : State) (m : Sys2Proof.Mode) : Temps := ((uncorrectedCycles m).foldl quietCycle s).tmp

theorem foldl_uncorrectedCycles {m : Sys2Proof.Mode} (hm : inMemory m) (s : State) :
    (uncorrectedCycles m).foldl quietCycle s =
      s.afterReads (s.pc + BitVec.ofNat 16 m.operandBytes) (s.addressTemps m) (s.addressReads m) := by
  unfold State.addressTemps
  cases m with
  | implied | accumulator | immediate | indirect | relative | immediate2 => cases hm
  | _ =>
    simp [uncorrectedCycles, addressCycles, State.afterReads, State.addressReads, State.readCycle, State.readsAt,
      State.memByte, Mode.operandBytes, BitVec.add_assoc, State.addIndex, State.advance, State.latchLo,
      State.latchHi, State.logBus, State.operand1]

/-- Before any correction the temporaries hold the address with the unadjusted high byte (40 R146, R148). -/
theorem target_uncorrectedCycles {m : Sys2Proof.Mode} (hm : inMemory m) (s : State) :
    ((uncorrectedCycles m).foldl quietCycle s).target m = s.uncorrectedAddr m := by
  cases m with
  | absoluteX | absoluteY | indirectY =>
    simp [uncorrectedCycles, State.target, inZeroPage, State.hiLo, State.uncorrectedAddr, State.operand1,
      State.operand2, State.index, State.memByte]
  | _ => exact target_addressCycles hm s

/-- The carry that the address cycles leave says whether the mode crosses a page (40 R155). -/
theorem carry_addressTemps (s : State) (m : Sys2Proof.Mode) :
    (mayCross m && (s.addressTemps m).carry) = s.crossesPage m := by
  unfold State.addressTemps
  cases m with
  | absoluteX | absoluteY | indirectY =>
    simp [mayCross, uncorrectedCycles, State.crossesPage, State.operand1, State.index, State.memByte]
  | _ => rfl

/-- The bytes that the address cycles leave give the effective address once the carry is added (40 R146, R148). -/
theorem corrected_addressTemps {s : State} {m : Sys2Proof.Mode} (h : s.crossesPage m) :
    wordOf ((s.addressTemps m).hi + 1#8) (s.addressTemps m).lo = s.effectiveAddr m := by
  rw [effectiveAddr_of_crossesPage h, State.addressTemps]
  cases m with
  | absoluteX | absoluteY | indirectY =>
    simp [uncorrectedCycles, State.correctedAddr, State.operand1, State.operand2, State.index, State.memByte]
  | _ => cases h

/-- The address cycles of class W and M only read (40 R149 to R152). -/
theorem foldl_addressCycles {m : Sys2Proof.Mode} (hm : inMemory m) (s : State) :
    ∃ tmp, (addressCycles m).foldl quietCycle s =
      s.afterReads (s.pc + BitVec.ofNat 16 m.operandBytes) tmp (s.storeReads m) := by
  rw [addressCycles_eq, List.foldl_append, foldl_uncorrectedCycles hm, State.storeReads]
  cases hc : mayCross m with
  | false => exact ⟨s.addressTemps m, by simp⟩
  | true =>
    have htarget := target_uncorrectedCycles hm s
    rw [State.target, (inMemory_of_mayCross hc).2, if_neg (by decide), foldl_uncorrectedCycles hm] at htarget
    rw [if_pos rfl, if_pos rfl, List.foldl_cons, List.foldl_nil, quietCycle_correctHi, htarget,
      State.afterReads_readCycle, State.afterReads_latchHi]
    exact ⟨_, rfl⟩

/-! ## The cycles of each class after the address is known -/

theorem ReadOp.apply_settled (op : ReadOp) (v : Byte) (s : State) :
    (op.apply v s).settled = op.apply v s.settled := by
  cases op <;> rfl

theorem ImpliedOp.apply_settled (op : ImpliedOp) (s : State) : (op.apply s).settled = op.apply s.settled := by
  cases op <;> rfl

theorem quietCycle_implied (op : ImpliedOp) (s : State) :
    quietCycle s (.implied op) = op.apply (s.readCycle s.pc) := by
  cases op <;> rfl

theorem quietCycle_readImmediate (op : ReadOp) (s : State) :
    quietCycle s (.readImmediate op) = op.apply (s.memByte s.pc) (s.readCycle s.pc).advance := by
  cases op <;> rfl

theorem quietCycle_readZeroPage (op : ReadOp) (s : State) :
    quietCycle s (.readZeroPage op) =
      op.apply (s.memByte (zeroPage s.tmp.lo)) (s.readCycle (zeroPage s.tmp.lo)) := by
  cases op <;> rfl

theorem quietCycle_readAbsolute (op : ReadOp) (s : State) :
    quietCycle s (.readAbsolute op) = op.apply (s.memByte s.hiLo) (s.readCycle s.hiLo) := by
  cases op <;> rfl

theorem quietCycle_readCorrected (op : ReadOp) (s : State) :
    quietCycle s (.readCorrected op) =
      op.apply (s.memByte (wordOf (s.tmp.hi + 1#8) s.tmp.lo)) (s.readCycle (wordOf (s.tmp.hi + 1#8) s.tmp.lo)) := by
  cases op <;> rfl

/-- The speculative read is the last one unless the index addition carried (40 R146 T4, R148 T5). -/
theorem quietRun_readSpeculative {n : Nat} {op : ReadOp} {s : State} (hh : s.halted = none) (hnil : s.queue = []) :
    quietRun (n + 2) [.readSpeculative op] s =
      if s.tmp.carry then quietCycle (s.readCycle s.hiLo) (.readCorrected op)
      else op.apply (s.memByte s.hiLo) (s.readCycle s.hiLo) := by
  have hop : quietOp (.readSpeculative op) s =
      if s.tmp.carry then s.logBus (s.readsAt s.hiLo)
      else op.apply (s.memByte s.hiLo) (s.logBus (s.readsAt s.hiLo)) := rfl
  cases hc : s.tmp.carry with
  | true =>
    rw [hc, if_pos rfl] at hop
    have hfollow : (MicroOp.readSpeculative op).follow (s.logBus (s.readsAt s.hiLo)) = [.readCorrected op] :=
      if_pos hc
    rw [quietRun_cons (by rw [hop]; exact hh), hop, hfollow, List.nil_append, if_pos rfl]
    exact quietRun_eq_foldl (s := s.readCycle s.hiLo) hh hnil rfl (Nat.succ_pos n)
  | false =>
    rw [hc, if_neg (by decide)] at hop
    have hfollow : (MicroOp.readSpeculative op).follow
        (op.apply (s.memByte s.hiLo) (s.logBus (s.readsAt s.hiLo))) = [] := by
      rw [op.apply_frame]
      exact if_neg (by simp [hc])
    rw [quietRun_cons (by rw [hop, op.apply_halted]; exact hh), hop, hfollow, List.nil_append, quietRun_nil,
      if_neg (by decide), ← hnil]
    cases op <;> rfl

/-- The last cycle of class R that is queued with the opcode (40 R144 to R148). -/
def loadCycle (op : ReadOp) (m : Sys2Proof.Mode) : MicroOp :=
  if inZeroPage m then .readZeroPage op else if mayCross m then .readSpeculative op else .readAbsolute op

theorem quietRun_loadCycle {n : Nat} {op : ReadOp} {m : Sys2Proof.Mode} {s : State} (hh : s.halted = none)
    (hnil : s.queue = []) :
    quietRun (n + 2) [loadCycle op m] s =
      if mayCross m && s.tmp.carry then quietCycle (s.readCycle (s.target m)) (.readCorrected op)
      else op.apply (s.memByte (s.target m)) (s.readCycle (s.target m)) := by
  unfold loadCycle State.target
  cases hc : mayCross m with
  | true => simpa [(inMemory_of_mayCross hc).2] using quietRun_readSpeculative hh hnil
  | false =>
    simp only [Bool.false_and, Bool.false_eq_true, if_false]
    split
    · exact (quietRun_eq_foldl hh hnil rfl (Nat.le_add_left 1 _)).trans (quietCycle_readZeroPage op s)
    · exact (quietRun_eq_foldl hh hnil rfl (Nat.le_add_left 1 _)).trans (quietCycle_readAbsolute op s)

section

variable (s : State) (addr : Word) (v p : Byte)

/-- `s` with the byte that class M transforms latched (40 R152). -/
def State.latchData : State := { s with tmp := { s.tmp with data := v } }

/-- `s` with P written. -/
def State.setP : State := { s with p := p }

@[simp] theorem State.readCycle_p : (s.readCycle addr).p = s.p := rfl
@[simp] theorem State.readCycle_hiLo : (s.readCycle addr).hiLo = s.hiLo := rfl
@[simp] theorem State.writeCycle_p : (s.writeCycle addr v).p = s.p := rfl
@[simp] theorem State.writeCycle_hiLo : (s.writeCycle addr v).hiLo = s.hiLo := rfl
@[simp] theorem State.latchData_p : (s.latchData v).p = s.p := rfl
@[simp] theorem State.latchData_hiLo : (s.latchData v).hiLo = s.hiLo := rfl
@[simp] theorem State.latchData_lo : (s.latchData v).tmp.lo = s.tmp.lo := rfl
@[simp] theorem State.latchData_data : (s.latchData v).tmp.data = v := rfl

theorem State.setP_settled : (s.setP p).settled = s.settled.setP p := rfl

theorem State.latchData_settled : (s.latchData v).settled = s.settled := rfl

theorem State.writeCycle_settled : (s.writeCycle addr v).settled = s.settled.writeCycle addr v := rfl

theorem quietCycle_loadZeroPage_eq :
    quietCycle s .loadZeroPage = (s.readCycle (zeroPage s.tmp.lo)).latchData (s.memByte (zeroPage s.tmp.lo)) := rfl

theorem quietCycle_loadAbsolute_eq :
    quietCycle s .loadAbsolute = (s.readCycle s.hiLo).latchData (s.memByte s.hiLo) := rfl

theorem quietCycle_modifyZeroPage (op : ModifyOp) :
    quietCycle s (.modifyZeroPage op) =
      (s.writeCycle (zeroPage s.tmp.lo) (op.result s.tmp.data s.p).1).setP (op.result s.tmp.data s.p).2 := rfl

theorem quietCycle_modifyAbsolute (op : ModifyOp) :
    quietCycle s (.modifyAbsolute op) =
      (s.writeCycle s.hiLo (op.result s.tmp.data s.p).1).setP (op.result s.tmp.data s.p).2 := rfl

/-- `s` after the last three cycles of class M at an address, apart from the temporaries: the byte is read, written
back, and written anew with the flags (40 R152). -/
def State.updated (op : ModifyOp) : State :=
  (((s.readCycle addr).writeCycle addr (s.memByte addr)).writeCycle addr (op.result (s.memByte addr) s.p).1).setP
    (op.result (s.memByte addr) s.p).2

theorem State.updated_settled (op : ModifyOp) : (s.updated addr op).settled = s.settled.updated addr op := rfl

end

theorem foldl_updateCycles_settled (op : ModifyOp) (m : Sys2Proof.Mode) (s : State) :
    ((updateCycles op m).foldl quietCycle s).settled = (s.updated (s.target m) op).settled := by
  unfold updateCycles State.target
  split
  · simp [-quietCycle_loadZeroPage, quietCycle_loadZeroPage_eq, quietCycle_modifyZeroPage, State.updated,
      State.setP_settled, State.writeCycle_settled, State.latchData_settled]
  · simp [-quietCycle_loadAbsolute, quietCycle_loadAbsolute_eq, quietCycle_modifyAbsolute, State.updated,
      State.setP_settled, State.writeCycle_settled, State.latchData_settled]

theorem foldl_storeCycles (op : WriteOp) (m : Sys2Proof.Mode) (s : State) :
    (storeCycles op m).foldl quietCycle s = s.writeCycle (s.target m) (op.value s) := by
  unfold storeCycles State.target
  split <;> rfl

/-! ## An instruction of each class (40 R142 to R153) -/

theorem cyclesOf_of_implied {i : Instr} {op : ImpliedOp} (h : opClass i = .implied op) :
    cyclesOf i = [.implied op] := by
  cases i <;> cases h <;> rfl

theorem cyclesOf_of_accumulator {i : Instr} {op : ModifyOp} (h : opClass i = .modify op)
    (hm : i.mode = .accumulator) : cyclesOf i = [.accumulator op] := by
  cases i with
  | aslAcc | lsrAcc | rolAcc | rorAcc => cases h; rfl
  | _ => cases hm

/-- What FetchDecode pushes for an instruction of class R, by its mode (40 R143 to R148). -/
def readCyclesOf (op : ReadOp) : Sys2Proof.Mode → List MicroOp
  | .immediate => [.readImmediate op]
  | m => uncorrectedCycles m ++ [loadCycle op m]

theorem cyclesOf_of_read {i : Instr} {op : ReadOp} (h : opClass i = .read op) :
    (i.mode = .immediate ∨ inMemory i.mode) ∧ cyclesOf i = readCyclesOf op i.mode := by
  cases i <;> cases h <;> exact ⟨by decide, rfl⟩

/-- Class I from a ready state, whatever temporaries it is compared with (40 R142). -/
theorem endsInWithBus_implied {i : Instr} {s : State} {op : ImpliedOp} (h : s.ready) (hop : opClass i = .implied op)
    (tmp : Temps) : EndsInWithBus i s (op.apply (s.counted.afterReads s.pc tmp [s.readsAt s.pc])) := by
  have hi := cyclesOf_of_implied hop
  refine ⟨_, exec_straight h (by rw [hi]; rfl), ?_⟩
  rw [hi, List.foldl_cons, List.foldl_nil, quietCycle_implied, op.apply_settled, op.apply_settled]
  rfl

/-- The accumulator form of class M from a ready state (40 R153). -/
theorem endsInWithBus_accumulator {i : Instr} {s : State} {op : ModifyOp} (h : s.ready)
    (hop : opClass i = .modify op) (hm : i.mode = .accumulator) (tmp : Temps) :
    EndsInWithBus i s ((s.counted.afterReads s.pc tmp [s.readsAt s.pc]).setAP (op.result s.a s.p)) := by
  have hi := cyclesOf_of_accumulator hop hm
  refine ⟨_, exec_straight h (by rw [hi]; rfl), ?_⟩
  rw [hi]
  rfl

/-- Class R, IMM, from a ready state (40 R143). -/
theorem endsInWithBus_immediate {i : Instr} {s : State} {op : ReadOp} (h : s.ready) (hop : opClass i = .read op)
    (hm : i.mode = .immediate) (tmp : Temps) :
    EndsInWithBus i s
      (op.apply (s.memByte s.pc) (s.counted.afterReads (s.pc + 1#16) tmp [s.readsAt s.pc])) := by
  obtain ⟨-, hi⟩ := cyclesOf_of_read hop
  rw [hm] at hi
  refine ⟨_, exec_straight h (by rw [hi]; rfl), ?_⟩
  rw [hi, readCyclesOf, List.foldl_cons, List.foldl_nil, quietCycle_readImmediate, op.apply_settled,
    op.apply_settled]
  rfl

/-- Class R in the modes whose operand is in memory, from a ready state (40 R144 to R148). -/
theorem endsInWithBus_read {i : Instr} {s : State} {op : ReadOp} {m : Sys2Proof.Mode} (h : s.ready)
    (hop : opClass i = .read op) (hi : i.mode = m) (hm : inMemory m) (tmp : Temps) :
    EndsInWithBus i s
      (op.apply (s.operandByte m)
        (s.counted.afterReads (s.pc + BitVec.ofNat 16 m.operandBytes) tmp (s.dataReads m))) := by
  obtain ⟨-, hh, -, hnil⟩ := s.ready_iff.1 h
  have hcycles : cyclesOf i = uncorrectedCycles m ++ [loadCycle op m] := by
    rw [(cyclesOf_of_read hop).2, hi]
    cases m with
    | immediate => cases hm
    | _ => rfl
  refine ⟨_, exec_append h hcycles (uncorrectedCycles_straight m), ?_⟩
  have htarget := target_uncorrectedCycles hm s.counted
  rw [foldl_uncorrectedCycles hm] at htarget ⊢
  rw [quietRun_loadCycle (by exact hh) (by exact hnil), htarget, State.afterReads_tmp, carry_addressTemps,
    State.dataReads]
  cases hc : s.counted.crossesPage m with
  | true =>
    rw [if_pos rfl, if_pos (by exact hc), quietCycle_readCorrected, State.readCycle_tmp, State.afterReads_tmp,
      corrected_addressTemps hc, State.afterReads_readCycle, State.afterReads_readCycle, op.apply_settled,
      op.apply_settled]
    rfl
  | false =>
    rw [if_neg (by decide), if_neg (by exact Bool.eq_false_iff.1 hc), ← effectiveAddr_of_not_crossesPage hc,
      State.afterReads_readCycle, op.apply_settled, op.apply_settled, List.append_nil]
    rfl

/-- Class W from a ready state (40 R149 to R151). -/
theorem endsInWithBus_write {i : Instr} {s : State} {op : WriteOp} {m : Sys2Proof.Mode} (h : s.ready)
    (hop : opClass i = .write op) (hi : i.mode = m) (tmp : Temps) :
    EndsInWithBus i s
      ((s.counted.afterReads (s.pc + BitVec.ofNat 16 m.operandBytes) tmp (s.storeReads m)).writeCycle
        (s.effectiveAddr m) (op.value s)) := by
  obtain ⟨hm, hcycles⟩ := cyclesOf_of_write hop
  rw [hi] at hm hcycles
  have hstraight : (storeCycles op m).all fun op => !op.mayPush && !op.mayHalt := by
    unfold storeCycles
    split <;> rfl
  refine ⟨_, exec_straight h (by rw [hcycles, List.all_append, addressCycles_straight, hstraight]; rfl), ?_⟩
  have htarget := target_addressCycles hm s.counted
  obtain ⟨tmp', hfold⟩ := foldl_addressCycles hm s.counted
  rw [hfold] at htarget
  rw [hcycles, List.foldl_append, hfold, foldl_storeCycles, htarget]
  cases op <;> rfl

/-- Class M on memory from a ready state (40 R152). -/
theorem endsInWithBus_modify {i : Instr} {s : State} {op : ModifyOp} {m : Sys2Proof.Mode} (h : s.ready)
    (hop : opClass i = .modify op) (hi : i.mode = m) (hacc : m ≠ .accumulator) (tmp : Temps) :
    EndsInWithBus i s
      ((s.counted.afterReads (s.pc + BitVec.ofNat 16 m.operandBytes) tmp (s.storeReads m)).updated
        (s.effectiveAddr m) op) := by
  obtain ⟨hm, hcycles⟩ := cyclesOf_of_modify hop (hi ▸ hacc)
  rw [hi] at hm hcycles
  have hstraight : (updateCycles op m).all fun op => !op.mayPush && !op.mayHalt := by
    unfold updateCycles
    split <;> rfl
  refine ⟨_, exec_straight h (by rw [hcycles, List.all_append, addressCycles_straight, hstraight]; rfl), ?_⟩
  have htarget := target_addressCycles hm s.counted
  obtain ⟨tmp', hfold⟩ := foldl_addressCycles hm s.counted
  rw [hfold] at htarget
  rw [hcycles, List.foldl_append, foldl_updateCycles_settled, hfold, htarget, State.updated_settled,
    State.updated_settled]
  rfl

end Sys2Proof.Machine

/-!
SUPPORT. The cycle tables of a whole step, T1 included, as the rules of 40 count and list them (40 R142 to R154).
-/

namespace Sys2Proof.Machine

section

variable {s : State} {i : Instr} {m : Sys2Proof.Mode}

theorem stepsTo_read {op : ReadOp} (h : s.fetches i) (hop : opClass i = .read op) (hi : i.mode = m)
    (hm : inMemory m) :
    StepsTo s
      (op.apply (s.fetched.operandByte m)
        (s.fetched.counted.afterReads (s.pc + BitVec.ofNat 16 (1 + m.operandBytes)) s.tmp
          (s.fetched.dataReads m))) := by
  rw [← word_add_length]
  exact stepsTo_of_fetches h (endsInWithBus_read (State.fetched_ready h.1) hop hi hm s.tmp)

/-- Class R where an index addition may carry: `p` says whether it does (40 R146, R148). -/
theorem stepsTo_read_indexed {op : ReadOp} {p : Prop} [Decidable p] (h : s.fetches i) (hop : opClass i = .read op)
    (hi : i.mode = m) (hm : inMemory m) (hp : s.fetched.crossesPage m = decide p) :
    let wrong := s.fetched.uncorrectedAddr m
    let right := s.fetched.correctedAddr m
    let ends := fun (v : Byte) (later : List BusCycle) =>
      StepsTo s
        (op.apply v
          (s.fetched.counted.afterReads (s.pc + BitVec.ofNat 16 (1 + m.operandBytes)) s.tmp
            (s.fetched.addressReads m ++ later)))
    if p then ends (s.memByte right) [s.readsAt wrong, s.readsAt right]
    else ends (s.memByte wrong) [s.readsAt wrong] := by
  intro wrong right ends
  have hstep := stepsTo_read h hop hi hm
  rw [State.dataReads, State.operandByte, List.append_assoc] at hstep
  split
  · next hyes =>
    have hc : s.fetched.crossesPage m := hp.trans (decide_eq_true hyes)
    rw [if_pos hc, effectiveAddr_of_crossesPage hc] at hstep
    exact hstep
  · next hno =>
    have hc : s.fetched.crossesPage m = false := hp.trans (decide_eq_false hno)
    rw [if_neg (Bool.eq_false_iff.1 hc), effectiveAddr_of_not_crossesPage hc] at hstep
    exact hstep

theorem stepsTo_write {op : WriteOp} (h : s.fetches i) (hop : opClass i = .write op) (hi : i.mode = m) :
    StepsTo s
      ((s.fetched.counted.afterReads (s.pc + BitVec.ofNat 16 (1 + m.operandBytes)) s.tmp
        (s.fetched.storeReads m)).writeCycle (s.fetched.effectiveAddr m) (op.value s)) := by
  have hvalue : op.value s.fetched = op.value s := by cases op <;> rfl
  rw [← word_add_length, ← hvalue]
  exact stepsTo_of_fetches h (endsInWithBus_write (State.fetched_ready h.1) hop hi s.tmp)

theorem stepsTo_modify {op : ModifyOp} (h : s.fetches i) (hop : opClass i = .modify op) (hi : i.mode = m)
    (hacc : m ≠ .accumulator) :
    StepsTo s
      ((s.fetched.counted.afterReads (s.pc + BitVec.ofNat 16 (1 + m.operandBytes)) s.tmp
        (s.fetched.storeReads m)).updated (s.fetched.effectiveAddr m) op) := by
  rw [← word_add_length]
  exact stepsTo_of_fetches h (endsInWithBus_modify (State.fetched_ready h.1) hop hi hacc s.tmp)

end

theorem wordOf_ite_addIndex (hi lo index : Byte) :
    wordOf (if 256 ≤ lo.toNat + index.toNat then hi + 1#8 else hi) (lo + index) =
      wordOf hi lo + index.setWidth 16 := by
  rw [← wordOf_addIndex]
  simp [carried, carries]

/-- A store as its cycle table lists it: T1, the read behind it, the reads after that, and the write. -/
theorem storeAfterReads_eq (s : State) (pc addr : Word) (v : Byte) (reads : List BusCycle) :
    (s.fetched.counted.afterReads pc s.tmp (s.readsAt (s.pc + 1#16) :: reads)).writeCycle addr v =
      { s.polled.setMem addr v with
        pc := pc
        cycles := s.cycles + 3 + reads.length
        bus := [s.readsAt s.pc, s.readsAt (s.pc + 1#16)] ++ reads ++ [.write addr v] } := by
  simp [State.writeCycle, State.afterReads, State.counted, State.fetched, State.polled, State.logBus, State.readsAt,
    State.memByte]
  omega

/-- An update of memory as its cycle table lists it: T1, the read behind it, the reads after that, and the last three
cycles. -/
theorem updateAfterReads_eq (s : State) (pc addr : Word) (op : ModifyOp) (reads : List BusCycle) :
    (s.fetched.counted.afterReads pc s.tmp (s.readsAt (s.pc + 1#16) :: reads)).updated addr op =
      { (s.polled.setMem addr (s.memByte addr)).setMem addr (op.result (s.memByte addr) s.p).1 with
        p := (op.result (s.memByte addr) s.p).2
        pc := pc
        cycles := s.cycles + 5 + reads.length
        bus :=
          [s.readsAt s.pc, s.readsAt (s.pc + 1#16)] ++ reads ++
            [s.readsAt addr, .write addr (s.memByte addr), .write addr (op.result (s.memByte addr) s.p).1] } := by
  simp [State.updated, State.setP, State.writeCycle, State.readCycle, State.afterReads, State.counted, State.fetched,
    State.polled, State.logBus, State.memByte, State.readsAt]
  omega

/-! ## Cycle counts (40 R154) -/

theorem length_dataReads {m : Sys2Proof.Mode} (hm : inMemory m) (s : State) :
    1 + (s.dataReads m).length = readCount m + if s.crossesPage m then 1 else 0 := by
  have hlen : 1 + (s.addressReads m).length + 1 = readCount m := by
    cases m with
    | implied | accumulator | immediate | indirect | relative | immediate2 => cases hm
    | _ => rfl
  rw [← hlen, State.dataReads]
  split <;> simp <;> omega

theorem length_storeReads_of_write {m : Sys2Proof.Mode} (hm : inMemory m) (s : State) :
    1 + (s.storeReads m).length + 1 = writeCount m := by
  cases m with
  | implied | accumulator | immediate | indirect | relative | immediate2 => cases hm
  | _ => rfl

theorem length_storeReads_of_modify {i : Instr} {op : ModifyOp} (h : opClass i = .modify op)
    (hm : i.mode ≠ .accumulator) (s : State) : 1 + (s.storeReads i.mode).length + 3 = modifyCount i.mode := by
  cases i with
  | aslAcc | lsrAcc | rolAcc | rorAcc => exact absurd rfl hm
  | _ => cases h <;> rfl

theorem ReadOp.apply_cycles (op : ReadOp) (v : Byte) (s : State) : (op.apply v s).cycles = s.cycles := by
  rw [op.apply_frame]

theorem ImpliedOp.apply_cycles (op : ImpliedOp) (s : State) : (op.apply s).cycles = s.cycles := by
  rw [op.apply_frame]

theorem State.writeCycle_cycles (s : State) (addr : Word) (v : Byte) :
    (s.writeCycle addr v).cycles = s.cycles + 1 := rfl

theorem State.updated_cycles (s : State) (addr : Word) (op : ModifyOp) :
    (s.updated addr op).cycles = s.cycles + 3 := rfl

theorem State.fetched_afterReads_cycles (s : State) (pc : Word) (reads : List BusCycle) :
    (s.fetched.counted.afterReads pc s.tmp reads).cycles = s.cycles + (1 + reads.length) := by
  rw [← Nat.add_assoc]
  rfl

/-- A step that fetches an instruction counts the cycles of the state it leads to, and ends at a quiescent point
(40 R138). -/
theorem StepsTo.takes {s t : State} {i : Instr} {n : Nat} (h : StepsTo s t) (hi : s.fetches i)
    (hcycles : t.cycles = s.cycles + n) :
    ∃ u, step s = .next u ∧ u.cycles = s.cycles + n ∧ u.quiescent := by
  obtain ⟨u, hu, he⟩ := h
  obtain ⟨-, -, -, -, hserv, -⟩ := s.atRest_iff.1 hi.1
  obtain ⟨hkeeps, hnil⟩ := exec_keepsRequests (State.fetched_ready hi.1) ((step_of_fetches hi).symm.trans hu)
  have hserv' : u.servicing = false := (congrArg State.servicing hkeeps).trans hserv
  exact ⟨u, hu, (congrArg State.cycles he).trans hcycles, by simp [State.quiescent, hnil, hserv']⟩

end Sys2Proof.Machine

namespace Sys2Proof.Machine

/-- Settles O21: the one cycle behind T1 makes the dummy read at PC and the update. -/
theorem impliedAndAccumulatorCycles : Obligations.ImpliedAndAccumulatorCycles := by
  unfold Obligations.ImpliedAndAccumulatorCycles
  intro s i h
  have hready := State.fetched_ready h.1
  exact ⟨fun op hop => stepsTo_of_fetches h (endsInWithBus_implied hready hop s.tmp),
    fun op hop hm => stepsTo_of_fetches h (endsInWithBus_accumulator hready hop hm s.tmp)⟩

/-- Settles O22: in these modes the address cycles read what the table lists and leave the effective address, where the
last cycle reads. -/
theorem readCycles : Obligations.ReadCycles := by
  unfold Obligations.ReadCycles
  intro s i op h hop
  rw [word_add_two]
  intro b1 b2 ends readAt zpIndexed ptr
  refine ⟨fun hm => ?_, fun hm => (stepsTo_read h hop hm rfl :), fun hm => (stepsTo_read h hop hm rfl :),
    fun hm => (stepsTo_read h hop hm rfl :), fun hm => (stepsTo_read h hop hm rfl :),
    fun hm => (stepsTo_read h hop hm rfl :)⟩
  have himm := stepsTo_of_fetches h (endsInWithBus_immediate (State.fetched_ready h.1) hop hm s.tmp)
  rw [show s.fetched.pc + 1#16 = s.pc + 2#16 from (word_add_two s.pc).symm] at himm
  exact himm

/-- Settles O23: the speculative read is at the address without the carry, and the carry alone decides whether the read
at the corrected address follows. -/
theorem pageCrossingReadCycles : Obligations.PageCrossingReadCycles := by
  unfold Obligations.PageCrossingReadCycles
  intro s i op h hop
  rw [word_add_two]
  intro b1 b2 ends indexed
  exact ⟨fun hm => (stepsTo_read_indexed h hop hm rfl rfl :),
    fun hm => (stepsTo_read_indexed h hop hm rfl rfl :), fun hm => (stepsTo_read_indexed h hop hm rfl rfl :)⟩

/-- Settles O24: the address cycles read what the table lists, the speculative read among them whether or not the
addition carries, and the last cycle writes at the effective address. -/
theorem writeCycles : Obligations.WriteCycles := by
  unfold Obligations.WriteCycles
  intro s i op h hop
  rw [word_add_two]
  simp only [← storeAfterReads_eq, wordOf_ite_addIndex]
  exact ⟨fun hm => (stepsTo_write h hop hm :), fun hm => (stepsTo_write h hop hm :),
    fun hm => (stepsTo_write h hop hm :), fun hm => (stepsTo_write h hop hm :),
    fun hm => (stepsTo_write h hop hm :), fun hm => (stepsTo_write h hop hm :),
    fun hm => (stepsTo_write h hop hm :), fun hm => (stepsTo_write h hop hm :)⟩

/-- Settles O25: the address cycles are those of class W, and the last three cycles read, write back and write the
result at the effective address. -/
theorem modifyCycles : Obligations.ModifyCycles := by
  unfold Obligations.ModifyCycles
  intro s i op h hop
  rw [word_add_two]
  simp only [← updateAfterReads_eq, wordOf_ite_addIndex]
  exact ⟨fun hm => (stepsTo_modify h hop hm (by decide) :), fun hm => (stepsTo_modify h hop hm (by decide) :),
    fun hm => (stepsTo_modify h hop hm (by decide) :), fun hm => (stepsTo_modify h hop hm (by decide) :)⟩

/-- Settles O27: the cycle tables count what 40 R154 sums up, and an instruction leaves nothing queued. -/
theorem cycleCounts : Obligations.CycleCounts := by
  unfold Obligations.CycleCounts
  intro s i h takes
  have hready := State.fetched_ready h.1
  refine ⟨fun op hop => ?_, fun op hop => ?_, fun op hop => ?_, fun op hop => ?_⟩
  · exact (stepsTo_of_fetches h (endsInWithBus_implied hready hop s.tmp)).takes h (op.apply_cycles _)
  · obtain ⟨himm | hm, -⟩ := cyclesOf_of_read hop
    · rw [himm]
      exact (stepsTo_of_fetches h (endsInWithBus_immediate hready hop himm s.tmp)).takes h (op.apply_cycles _ _)
    · refine (stepsTo_read h hop rfl hm).takes h ?_
      rw [op.apply_cycles, State.fetched_afterReads_cycles, length_dataReads hm]
  · refine (stepsTo_write h hop rfl).takes h ?_
    rw [State.writeCycle_cycles, State.fetched_afterReads_cycles, Nat.add_assoc,
      length_storeReads_of_write (cyclesOf_of_write hop).1]
  · by_cases hm : i.mode = .accumulator
    · rw [hm]
      exact (stepsTo_of_fetches h (endsInWithBus_accumulator hready hop hm s.tmp)).takes h rfl
    · refine (stepsTo_modify h hop rfl hm).takes h ?_
      rw [State.updated_cycles, State.fetched_afterReads_cycles, Nat.add_assoc, length_storeReads_of_modify hop hm]

end Sys2Proof.Machine

/-!
SUPPORT. The whole result of an instruction of class R, W or I from a ready state: its class function on the state behind
the instruction, with the cycle tables' reads and temporaries forgotten (40 R141, R154).
-/

namespace Sys2Proof.Machine

/-- What is stated with the bus cycles holds without them. -/
theorem EndsInWithBus.endsIn {i : Instr} {s t t' : State} (h : EndsInWithBus i s t) (ht : t.silent = t'.silent) :
    EndsIn i s t' := by
  obtain ⟨u, hu, he⟩ := h
  exact ⟨u, hu, (congrArg State.silent he).trans ht⟩

theorem ReadOp.apply_silent (op : ReadOp) (v : Byte) (s : State) : (op.apply v s).silent = op.apply v s.silent := by
  cases op <;> rfl

theorem ImpliedOp.apply_silent (op : ImpliedOp) (s : State) : (op.apply s).silent = op.apply s.silent := by
  cases op <;> rfl

section

variable {i : Instr} {s : State}

theorem cycleCount_of_implied {op : ImpliedOp} (h : opClass i = .implied op) : cycleCount i s = 2 := by
  rw [cycleCount, h]

theorem cycleCount_of_read {op : ReadOp} (h : opClass i = .read op) :
    cycleCount i s = readCount i.mode + if s.crossesPage i.mode then 1 else 0 := by
  rw [cycleCount, h]

theorem cycleCount_of_write {op : WriteOp} (h : opClass i = .write op) : cycleCount i s = writeCount i.mode := by
  rw [cycleCount, h]

theorem operandBytes_of_implied {op : ImpliedOp} (h : opClass i = .implied op) : i.operandBytes = 0 := by
  cases i <;> cases h <;> rfl

/-- A cycle table's reads, T1's among them, as many as the instruction takes cycles, leave the state behind it. -/
theorem State.afterReads_silent {tmp : Temps} {reads : List BusCycle} (hn : 1 + reads.length = cycleCount i s) :
    (s.counted.afterReads (s.pc + BitVec.ofNat 16 i.operandBytes) tmp reads).silent = (s.after i).silent := by
  simp [State.silent, State.afterReads, State.counted, State.after, ← hn, Nat.add_assoc]

/-- Where a write is the last cycle, the state behind the instruction has the byte stored at its address. -/
theorem State.afterReads_writeCycle_silent {tmp : Temps} {reads : List BusCycle} {addr : Word} {v : Byte}
    (hn : 1 + reads.length + 1 = cycleCount i s) :
    ((s.counted.afterReads (s.pc + BitVec.ofNat 16 i.operandBytes) tmp reads).writeCycle addr v).silent =
      ((s.after i).setMem addr v).silent := by
  simp [State.silent, State.writeCycle, State.setMem, State.logBus, State.afterReads, State.counted, State.after, ← hn,
    Nat.add_assoc]

theorem endsIn_implied {op : ImpliedOp} (h : s.ready) (hop : opClass i = .implied op) :
    EndsIn i s (op.apply (s.after i)) := by
  refine (endsInWithBus_implied h hop s.tmp).endsIn ?_
  have hn : 1 + [s.readsAt s.pc].length = cycleCount i s := (cycleCount_of_implied hop).symm
  have hstate := State.afterReads_silent (tmp := s.tmp) hn
  rw [operandBytes_of_implied hop, BitVec.add_zero] at hstate
  rw [op.apply_silent, op.apply_silent, hstate]

theorem endsIn_read {op : ReadOp} (h : s.ready) (hop : opClass i = .read op) :
    EndsIn i s (op.apply (s.operandByte i.mode) (s.after i)) := by
  obtain ⟨himm | hm, -⟩ := cyclesOf_of_read hop
  · have hn : 1 + [s.readsAt s.pc].length = cycleCount i s := by
      rw [cycleCount_of_read hop, himm]
      rfl
    have hstate := State.afterReads_silent (tmp := s.tmp) hn
    rw [Instr.operandBytes, himm] at hstate
    refine (endsInWithBus_immediate h hop himm s.tmp).endsIn ?_
    rw [himm, op.apply_silent, op.apply_silent]
    exact congrArg (op.apply _ ·) hstate
  · refine (endsInWithBus_read h hop rfl hm s.tmp).endsIn ?_
    rw [op.apply_silent, op.apply_silent]
    exact congrArg (op.apply _ ·) (State.afterReads_silent ((length_dataReads hm s).trans (cycleCount_of_read hop).symm))

theorem endsIn_write {op : WriteOp} (h : s.ready) (hop : opClass i = .write op) :
    EndsIn i s ((s.after i).setMem (s.effectiveAddr i.mode) (op.value s)) :=
  (endsInWithBus_write h hop rfl s.tmp).endsIn <| State.afterReads_writeCycle_silent <|
    (length_storeReads_of_write (cyclesOf_of_write hop).1 s).trans (cycleCount_of_write hop).symm

end

end Sys2Proof.Machine

namespace Sys2Proof.Machine

/-- Settles O28: a load is class R, whose function writes the byte at the effective address and N and Z from it. -/
theorem loadsWriteTheRegister : Obligations.LoadsWriteTheRegister := by
  unfold Obligations.LoadsWriteTheRegister
  intro s h
  exact ⟨fun i hi => endsIn_read h (op := .lda) (by revert i; decide),
    fun i hi => endsIn_read h (op := .ldx) (by revert i; decide),
    fun i hi => endsIn_read h (op := .ldy) (by revert i; decide)⟩

/-- Settles O29: a store is class W, which writes its register at the effective address and nothing else. -/
theorem storesWriteMemory : Obligations.StoresWriteMemory := by
  unfold Obligations.StoresWriteMemory
  intro s h
  exact ⟨fun i hi => endsIn_write h (op := .sta) (by revert i; decide),
    fun i hi => endsIn_write h (op := .stx) (by revert i; decide),
    fun i hi => endsIn_write h (op := .sty) (by revert i; decide)⟩

/-- Settles O30: a transfer is class I, whose function moves the register and, but for TXS, writes N and Z from it. -/
theorem transfersMoveTheRegister : Obligations.TransfersMoveTheRegister := by
  unfold Obligations.TransfersMoveTheRegister
  intro s h
  exact ⟨endsIn_implied h (op := .tax) rfl, endsIn_implied h (op := .tay) rfl, endsIn_implied h (op := .txa) rfl,
    endsIn_implied h (op := .tya) rfl, endsIn_implied h (op := .tsx) rfl, endsIn_implied h (op := .txs) rfl⟩

end Sys2Proof.Machine

/-!
SUPPORT. ADC, SBC and the compares as arithmetic: bytes as numbers, signed overflow, and the nibbles of the decimal modes
(42 R220 to R229).
-/

namespace Sys2Proof.Machine

/-! ## Bytes as numbers -/

theorem carryNat_eq_toNat (p : Byte) : carryNat p = (getFlag p .c).toNat := by
  unfold carryNat
  cases getFlag p .c <;> rfl

theorem ofNat_emod_256 (n : Nat) : BitVec.ofNat 8 (n % 256) = BitVec.ofNat 8 n := by
  simp [← BitVec.toNat_inj]

theorem ofNat_8_eq_zero (n : Nat) : BitVec.ofNat 8 n = 0#8 ↔ n % 256 = 0 := by
  simp [← BitVec.toNat_inj]

theorem ofInt_emod_256 (n : Int) : BitVec.ofInt 8 (n % 256) = BitVec.ofInt 8 n := by
  simp [← BitVec.toNat_inj, BitVec.toNat_ofInt]

theorem ofNat_toNat_add_carry (b : Byte) (q : Prop) [Decidable q] :
    BitVec.ofNat 8 (b.toNat + if q then 256 else 0) = b := by
  rw [← ofNat_emod_256]
  split <;> simp [ofNat_emod_256]

theorem ofInt_toNat_sub_borrow (b : Byte) (q : Prop) [Decidable q] :
    BitVec.ofInt 8 (b.toNat - if q then 0 else 256) = b := by
  rw [← ofInt_emod_256]
  split <;> simp [ofInt_emod_256]

theorem msb_eq_mask_0x80 (b : Byte) : b.msb = decide (b &&& 0x80#8 ≠ 0#8) := by
  rw [show 0x80#8 = BitVec.twoPow 8 7 from rfl, BitVec.and_twoPow, BitVec.msb_eq_getLsbD_last]
  cases b.getLsbD 7 <;> decide

theorem toNat_lowNibble (b : Byte) : (b &&& 0x0F#8).toNat = b.toNat % 16 :=
  Nat.and_two_pow_sub_one_eq_mod b.toNat 4

theorem toNat_highNibble (b : Byte) : (highNibble b).toNat = b.toNat / 16 * 16 := by
  revert b
  decide

theorem ofInt_toNat_sub_toNat (a b : Byte) : BitVec.ofInt 8 (a.toNat - b.toNat) = a - b := by
  rw [eq_comm, BitVec.sub_eq_iff_eq_add]
  calc a = BitVec.ofInt 8 a.toNat := by simp
    _ = BitVec.ofInt 8 ((a.toNat - b.toNat) + b.toNat) := by rw [Int.sub_add_cancel]
    _ = _ := by rw [BitVec.ofInt_add]; simp

theorem toInt_mem_byte (b : Byte) : -128 ≤ b.toInt ∧ b.toInt < 128 := ⟨BitVec.le_toInt b, BitVec.toInt_lt⟩

theorem toInt_not_byte (b : Byte) : (~~~b).toInt = -1 - b.toInt := by
  rw [BitVec.toInt_eq_toNat_cond, BitVec.toInt_eq_toNat_cond b, BitVec.toNat_not]
  split_ifs <;> omega

/-! ## Binary addition and subtraction (42 R220, R222) -/

section

variable (a v p : Byte)

/-- The flags of binary ADC in the words of 42 R220. -/
theorem adcBinary_flags :
    let sum := a.toNat + v.toNat + (getFlag p .c).toNat
    let r := (adcBinary a v p).1
    r = BitVec.ofNat 8 sum ∧
    getFlag (adcBinary a v p).2 .c = decide (255 < sum) ∧
    getFlag (adcBinary a v p).2 .v = ((a ^^^ r) &&& (v ^^^ r)).msb ∧
    getFlag (adcBinary a v p).2 .n = r.msb ∧ getFlag (adcBinary a v p).2 .z = decide (r = 0#8) := by
  simp [adcBinary, getFlag_putNZ, getFlag_putFlag, carryNat_eq_toNat]

/-- The flags of binary SBC in the words of 42 R222. -/
theorem sbcBinary_flags :
    let diff : Int := a.toNat - v.toNat - (1 - (getFlag p .c).toNat)
    let r := (sbcBinary a v p).1
    r = BitVec.ofInt 8 diff ∧
    getFlag (sbcBinary a v p).2 .c = decide (0 ≤ diff) ∧
    getFlag (sbcBinary a v p).2 .v = ((a ^^^ v) &&& (a ^^^ r)).msb ∧
    getFlag (sbcBinary a v p).2 .n = r.msb ∧ getFlag (sbcBinary a v p).2 .z = decide (r = 0#8) := by
  simp [sbcBinary, getFlag_putNZ, getFlag_putFlag, carryNat_eq_toNat]

/-- C of binary ADC is the ninth bit of the unsigned sum. -/
theorem toNat_adcBinary_add_carry :
    (adcBinary a v p).1.toNat + 256 * (getFlag (adcBinary a v p).2 .c).toNat =
      a.toNat + v.toNat + (getFlag p .c).toNat := by
  obtain ⟨hr, hc, -⟩ := adcBinary_flags a v p
  rw [hr, hc, BitVec.toNat_ofNat]
  have hle := Bool.toNat_le (getFlag p .c)
  by_cases h : 255 < a.toNat + v.toNat + (getFlag p .c).toNat
  · rw [decide_eq_true h, Bool.toNat_true]
    omega
  · rw [decide_eq_false h, Bool.toNat_false]
    omega

/-- The result of binary ADC is the signed sum, wrapped where it does not fit a byte. -/
theorem toInt_adcBinary :
    let sum : Int := a.toInt + v.toInt + (getFlag p .c).toNat
    (adcBinary a v p).1.toInt =
      if sum < -128 then sum + 256 else if 127 < sum then sum - 256 else sum := by
  intro sum
  have hr : (adcBinary a v p).1 = BitVec.ofInt 8 sum := by
    simp [sum, adcBinary, carryNat_eq_toNat, BitVec.ofInt_add, BitVec.ofNat_add]
  have ha := toInt_mem_byte a
  have hv := toInt_mem_byte v
  have hc := Bool.toNat_le (getFlag p .c)
  rw [hr, BitVec.toInt_ofInt, Int.bmod_def]
  split_ifs <;> omega

/-- V of binary ADC is signed overflow: operands of one sign and a result of the other. -/
theorem adcBinary_overflow :
    let sum : Int := a.toInt + v.toInt + (getFlag p .c).toNat
    getFlag (adcBinary a v p).2 .v = decide (sum < -128 ∨ 127 < sum) := by
  intro sum
  obtain ⟨-, -, hv, -, -⟩ := adcBinary_flags a v p
  have hr := toInt_adcBinary a v p
  have ha := toInt_mem_byte a
  have hb := toInt_mem_byte v
  have hc := Bool.toNat_le (getFlag p .c)
  rw [hv, BitVec.msb_and, BitVec.msb_xor, BitVec.msb_xor, Bool.eq_iff_iff]
  simp only [BitVec.msb_eq_toInt, Bool.and_eq_true, bne_iff_ne, ne_eq, decide_eq_decide, decide_eq_true_eq]
  omega

/-- Without signed overflow the result of binary ADC is the signed sum. -/
theorem toInt_adcBinary_of_fits (h : getFlag (adcBinary a v p).2 .v = false) :
    (adcBinary a v p).1.toInt = a.toInt + v.toInt + (getFlag p .c).toNat := by
  rw [adcBinary_overflow, decide_eq_false_iff_not, not_or] at h
  rw [toInt_adcBinary, if_neg h.left, if_neg h.right]

/-- Binary SBC is binary ADC of the complement (42 R222). -/
theorem sbcBinary_eq_adcBinary_not : sbcBinary a v p = adcBinary a (~~~v) p := by
  have hsum : ((a.toNat + (~~~v).toNat + carryNat p : Nat) : Int) =
      a.toNat - v.toNat - (1 - carryNat p) + 256 := by
    rw [BitVec.toNat_not]
    omega
  have hr : BitVec.ofInt 8 (a.toNat - v.toNat - (1 - carryNat p)) =
      BitVec.ofNat 8 (a.toNat + (~~~v).toNat + carryNat p) := by
    rw [← BitVec.ofInt_natCast, hsum, BitVec.ofInt_add]
    simp
  have hc : (0 : Int) ≤ a.toNat - v.toNat - (1 - carryNat p) ↔
      255 < a.toNat + (~~~v).toNat + carryNat p := by
    omega
  have hv (r : Byte) : (a ^^^ v) &&& (a ^^^ r) = (a ^^^ r) &&& (~~~v ^^^ r) := by
    ext k
    simp only [BitVec.getElem_and, BitVec.getElem_xor, BitVec.getElem_not]
    cases a[k] <;> cases v[k] <;> cases r[k] <;> rfl
  simp only [sbcBinary, adcBinary, hr, hc, hv]

end

/-! ## Decimal addition and subtraction (42 R221, R223) -/

/-- The corrected sum of decimal ADC (42 R221), before it is cut to a byte. -/
def adcTotal (a v p : Byte) : Nat :=
  let t := (highNibble a).toNat + (highNibble v).toNat + adcLow a v (carryNat p)
  if 0xA0 ≤ t then t + 0x60 else t

/-- The corrected difference of decimal SBC (42 R223), before it is cut to a byte. -/
def sbcTotal (a v p : Byte) : Int :=
  let t : Int := (highNibble a).toNat - (highNibble v).toNat + sbcLow a v (carryNat p)
  if t < 0 then t - 0x60 else t

section

variable (a v : Byte) {p : Byte}

theorem adcByte_of_binary (h : getFlag p .d = false) : adcByte a v p = adcBinary a v p := by simp [adcByte, h]

theorem adcByte_of_decimal (h : getFlag p .d = true) : adcByte a v p = adcDecimal a v p := by simp [adcByte, h]

/-- The low-nibble step of decimal ADC in the words of 42 R221. -/
theorem adcLow_eq (p : Byte) :
    adcLow a v (carryNat p) =
      let al0 := (a &&& 0x0F#8).toNat + (v &&& 0x0F#8).toNat + (getFlag p .c).toNat
      if 0x0A ≤ al0 then (al0 + 6) % 16 + 0x10 else al0 := by
  simp only [adcLow, toNat_lowNibble, carryNat_eq_toNat]

/-- The low-nibble step of decimal SBC in the words of 42 R223. -/
theorem sbcLow_eq (p : Byte) :
    sbcLow a v (carryNat p) =
      let al0 : Int := (a &&& 0x0F#8).toNat - (v &&& 0x0F#8).toNat + (getFlag p .c).toNat - 1
      if al0 < 0 then (al0 - 6) % 16 - 0x10 else al0 := by
  simp only [sbcLow, toNat_lowNibble, carryNat_eq_toNat]

/-- Decimal ADC's result and flags (42 R221). -/
theorem adcDecimal_flags (p : Byte) :
    let al := adcLow a v (carryNat p)
    let t := (highNibble a).toNat + (highNibble v).toNat + al
    let ts := (highNibble a).toInt + (highNibble v).toInt + al
    (adcDecimal a v p).1 = BitVec.ofNat 8 (adcTotal a v p) ∧
    getFlag (adcDecimal a v p).2 .n = t.testBit 7 ∧
    getFlag (adcDecimal a v p).2 .v = decide (ts < -128 ∨ 127 < ts) ∧
    getFlag (adcDecimal a v p).2 .c = decide (0x100 ≤ adcTotal a v p) ∧
    getFlag (adcDecimal a v p).2 .z = decide ((a.toNat + v.toNat + (getFlag p .c).toNat) % 256 = 0) := by
  simp [adcDecimal, adcTotal, signed8, getFlag_putFlag, carryNat_eq_toNat, ofNat_8_eq_zero]

/-- SBC takes its flags from the binary difference in both modes (42 R223). -/
theorem sbcByte_flags : (sbcByte a v p).2 = (sbcBinary a v p).2 := by
  unfold sbcByte
  split <;> rfl

theorem sbcByte_result :
    (sbcByte a v p).1 = if getFlag p .d then BitVec.ofInt 8 (sbcTotal a v p) else (sbcBinary a v p).1 := by
  unfold sbcByte
  split <;> rfl

end

/-! ## Two decimal digits in a byte -/

/-- The BCD byte of a number below 100. -/
def bcdByte (k : Nat) : Byte := BitVec.ofNat 8 (k / 10 * 16 + k % 10)

section

variable {m n : Nat} (hm : m < 100) (hn : n < 100)
include hm

theorem toNat_bcdByte : (bcdByte m).toNat = m / 10 * 16 + m % 10 := by
  rw [bcdByte, BitVec.toNat_ofNat]
  omega

theorem bcdByte_lowDigit : (bcdByte m).toNat % 16 = m % 10 := by
  rw [toNat_bcdByte hm]
  omega

theorem bcdByte_highDigit : (highNibble (bcdByte m)).toNat = m / 10 * 16 := by
  rw [toNat_highNibble, toNat_bcdByte hm]
  omega

include hn

/-- Decimal ADC's corrected sum is the BCD byte of the decimal sum, and 256 where that sum has a third digit. -/
theorem adcTotal_bcdByte (p : Byte) :
    let sum := m + n + (getFlag p .c).toNat
    adcTotal (bcdByte m) (bcdByte n) p = (bcdByte (sum % 100)).toNat + if 100 ≤ sum then 256 else 0 := by
  intro sum
  have hc := Bool.toNat_le (getFlag p .c)
  rw [toNat_bcdByte (Nat.mod_lt _ (by decide))]
  simp only [adcTotal, adcLow, bcdByte_lowDigit, bcdByte_highDigit, carryNat_eq_toNat, hm, hn]
  split_ifs <;> omega

/-- The binary difference of BCD bytes borrows where the difference of their numbers does. -/
theorem bcdByte_borrow (p : Byte) :
    (0 : Int) ≤ (bcdByte m).toNat - (bcdByte n).toNat - (1 - (getFlag p .c).toNat) ↔
      n + (1 - (getFlag p .c).toNat) ≤ m := by
  have hc := Bool.toNat_le (getFlag p .c)
  rw [toNat_bcdByte hm, toNat_bcdByte hn]
  omega

/-- Decimal SBC's corrected difference is the BCD byte of the decimal difference, less 256 where it borrows. -/
theorem sbcTotal_bcdByte (p : Byte) :
    let borrow := 1 - (getFlag p .c).toNat
    sbcTotal (bcdByte m) (bcdByte n) p =
      (bcdByte ((100 + m - n - borrow) % 100)).toNat - if n + borrow ≤ m then 0 else 256 := by
  intro borrow
  have hc := Bool.toNat_le (getFlag p .c)
  rw [toNat_bcdByte (Nat.mod_lt _ (by decide))]
  simp only [sbcTotal, sbcLow, bcdByte_lowDigit, bcdByte_highDigit, carryNat_eq_toNat, hm, hn]
  split_ifs <;> omega

end

/-! ## An instruction that writes A and P -/

/-- The flags that no arithmetic instruction writes (10 R37). -/
theorem notMem_arithmetic_flags {f : Flag} (h : f ∈ [Flag.i, .d, .b, .r]) : f ∉ [Flag.n, .v, .z, .c] := by
  revert f
  decide

/-- An instruction of class R whose function writes a result to A and P ends with A as written and a P of its own. -/
theorem exec_of_setAP {i : Instr} {s : State} {op : ReadOp} {f : Byte → Byte → Byte → Byte × Byte} (h : s.ready)
    (hop : opClass i = .read op) (hf : ∀ v s, op.apply v s = s.setAP (f s.a v s.p)) :
    ∃ t, exec i s = .next t ∧
      t.silent = { s.after i with a := (f s.a (s.operandByte i.mode) s.p).1, p := t.p }.silent ∧
      t.p = (f s.a (s.operandByte i.mode) s.p).2 := by
  obtain ⟨t, ht, hst⟩ := endsIn_read h hop
  rw [hf] at hst
  have hp : t.p = (f s.a (s.operandByte i.mode) s.p).2 := congrArg State.p hst
  exact ⟨t, ht, by rw [hst, hp]; rfl, hp⟩

end Sys2Proof.Machine

namespace Sys2Proof.Machine

/-- Settles O31: ADC is class R, whose function in binary mode is binary ADC. -/
theorem adcBinaryAdds : Obligations.AdcBinaryAdds := by
  unfold Obligations.AdcBinaryAdds
  intro i hi s h hd v sum r
  obtain ⟨t, ht, hst, hp⟩ :=
    exec_of_setAP (f := adcByte) h (show opClass i = .read .adc by revert i; decide) fun _ _ => rfl
  have hadc : adcByte s.a v s.p = adcBinary s.a v s.p := adcByte_of_binary s.a v hd
  obtain ⟨hr, hc, hv, hn, hz⟩ := adcBinary_flags s.a v s.p
  rw [← hadc, ← ofNat_emod_256] at hr
  rw [← hadc, ← hp, hr] at hv hn hz
  rw [← hadc, ← hp] at hc
  rw [hr] at hst
  exact ⟨t, ht, hst, hc, hv.trans (msb_eq_mask_0x80 _), hn, hz,
    fun f hf => hp ▸ getFlag_adcByte_of_notMem (notMem_arithmetic_flags hf) s.a v s.p⟩

/-- Settles O32: ADC is class R, whose function in decimal mode is decimal ADC. -/
theorem adcDecimalAdds : Obligations.AdcDecimalAdds := by
  unfold Obligations.AdcDecimalAdds
  intro i hi s h hd v c bin al0 al t1 ts t2
  obtain ⟨t, ht, hst, hp⟩ :=
    exec_of_setAP (f := adcByte) h (show opClass i = .read .adc by revert i; decide) fun _ _ => rfl
  have hadc : adcByte s.a v s.p = adcDecimal s.a v s.p := adcByte_of_decimal s.a v hd
  obtain ⟨hr, hn, hv, hc, hz⟩ := adcDecimal_flags s.a v s.p
  have hal : adcLow s.a v (carryNat s.p) = al := adcLow_eq s.a v s.p
  have ht2 : adcTotal s.a v s.p = t2 := by
    rw [adcTotal, hal]
    rfl
  rw [← hadc, ht2, ← ofNat_emod_256] at hr
  rw [hr] at hst
  rw [← hadc, ← hp, hal] at hn hv
  rw [← hadc, ← hp, ht2] at hc
  rw [← hadc, ← hp] at hz
  exact ⟨t, ht, hst, hn, hv, hc, hz,
    fun f hf => hp ▸ getFlag_adcByte_of_notMem (notMem_arithmetic_flags hf) s.a v s.p⟩

/-- Settles O33: SBC is class R; its flags are binary SBC's in both modes. -/
theorem sbcSubtracts : Obligations.SbcSubtracts := by
  unfold Obligations.SbcSubtracts
  intro i hi s h v c diff r al0 al t1 t2 result
  obtain ⟨t, ht, hst, hp⟩ :=
    exec_of_setAP (f := sbcByte) h (show opClass i = .read .sbc by revert i; decide) fun _ _ => rfl
  obtain ⟨hr, hc, hv, hn, hz⟩ := sbcBinary_flags s.a v s.p
  rw [← ofInt_emod_256] at hr
  have ht2 : sbcTotal s.a v s.p = t2 := by
    rw [sbcTotal, sbcLow_eq]
    rfl
  have hres : (sbcByte s.a v s.p).1 = result := by
    rw [sbcByte_result, ht2, hr, ← ofInt_emod_256 t2]
  rw [← sbcByte_flags, ← hp, hr] at hv hn hz
  rw [← sbcByte_flags, ← hp] at hc
  rw [hres] at hst
  exact ⟨t, ht, hst, hc, hv.trans (msb_eq_mask_0x80 _), hn, hz,
    fun f hf => hp ▸ getFlag_sbcByte_of_notMem (notMem_arithmetic_flags hf) s.a v s.p⟩

/-- Settles O34: binary SBC is binary ADC of the complement, whose signed value is `-1 - v`. -/
theorem carryAndOverflowDerivation : Obligations.CarryAndOverflowDerivation := by
  unfold Obligations.CarryAndOverflowDerivation
  intro a v p c sum diff
  have hdiff : a.toInt + (~~~v).toInt + c = diff := by
    rw [toInt_not_byte]
    omega
  have hov := adcBinary_overflow a (~~~v) p
  have hfits := toInt_adcBinary_of_fits a (~~~v) p
  rw [hdiff, ← sbcBinary_eq_adcBinary_not] at hov hfits
  have hcompl : sbcBinary a v p = adcBinary a (v ^^^ 0xFF#8) p := by
    rw [sbcBinary_eq_adcBinary_not, ← BitVec.xor_allOnes]
    rfl
  exact ⟨hcompl, adcBinary_overflow a v p, hov, toInt_adcBinary_of_fits a v p, hfits,
    toNat_adcBinary_add_carry a v p⟩

/-- Settles O35: the corrected sum and difference of BCD bytes are those of their numbers. -/
theorem decimalModeIsDecimal : Obligations.DecimalModeIsDecimal := by
  unfold Obligations.DecimalModeIsDecimal
  intro m n p hm hn hd bcd c
  obtain ⟨hsum, -, -, hcarry, -⟩ := adcDecimal_flags (bcdByte m) (bcdByte n) p
  obtain ⟨-, hborrow, -⟩ := sbcBinary_flags (bcdByte m) (bcdByte n) p
  rw [adcTotal_bcdByte hm hn, ← adcByte_of_decimal _ _ hd] at hsum hcarry
  rw [← sbcByte_flags, decide_eq_decide.mpr (bcdByte_borrow hm hn p)] at hborrow
  have hdiff := sbcByte_result (bcdByte m) (bcdByte n) (p := p)
  rw [if_pos hd, sbcTotal_bcdByte hm hn] at hdiff
  refine ⟨hsum.trans (ofNat_toNat_add_carry _ _), hcarry.trans (decide_eq_decide.mpr ?_),
    hdiff.trans (ofInt_toNat_sub_borrow _ _), hborrow⟩
  have hlt := (bcdByte ((m + n + c) % 100)).isLt
  split <;> omega

/-- Settles O36: each is class R, whose function combines A with the operand. -/
theorem logicCombinesWithA : Obligations.LogicCombinesWithA := by
  unfold Obligations.LogicCombinesWithA
  intro s h
  exact ⟨fun i hi => endsIn_read h (op := .and) (by revert i; decide),
    fun i hi => endsIn_read h (op := .ora) (by revert i; decide),
    fun i hi => endsIn_read h (op := .eor) (by revert i; decide)⟩

/-- Settles O37: each is class R, whose function writes P alone, from the difference or the bits of the operand. -/
theorem comparesWriteFlagsOnly : Obligations.ComparesWriteFlagsOnly := by
  unfold Obligations.ComparesWriteFlagsOnly
  intro s h
  simp only [ofInt_emod_256, ofInt_toNat_sub_toNat]
  exact ⟨fun i hi => endsIn_read h (op := .cmp) (by revert i; decide),
    fun i hi => endsIn_read h (op := .cpx) (by revert i; decide),
    fun i hi => endsIn_read h (op := .cpy) (by revert i; decide),
    fun i hi => endsIn_read h (op := .bit) (by revert i; decide)⟩

end Sys2Proof.Machine

/-!
SUPPORT. The whole result of an instruction of class M from a ready state, on the accumulator and on memory, and the
shifted bytes as numbers (40 R152, R153, 43 R240 to R245).
-/

namespace Sys2Proof.Machine

/-! ## Class M without the record of bus cycles -/

section

variable {i : Instr} {s : State} {op : ModifyOp}

theorem cycleCount_of_modify (h : opClass i = .modify op) : cycleCount i s = modifyCount i.mode := by
  rw [cycleCount, h]

theorem State.setAP_silent (s : State) (r : Byte × Byte) : (s.setAP r).silent = s.silent.setAP r := rfl

/-- Where an update of memory is the last three cycles, the state behind the instruction has the result at its address,
over the byte written back, and the new flags. -/
theorem State.afterReads_updated_silent {tmp : Temps} {reads : List BusCycle} {addr : Word}
    (hn : 1 + reads.length + 3 = cycleCount i s) :
    ((s.counted.afterReads (s.pc + BitVec.ofNat 16 i.operandBytes) tmp reads).updated addr op).silent =
      (((s.after i).setMem addr (op.result (s.memByte addr) s.p).1).setP
        (op.result (s.memByte addr) s.p).2).silent := by
  have hmem := congrArg State.mem (s.setMem_setMem addr (s.memByte addr) (op.result (s.memByte addr) s.p).1)
  simpa [State.silent, State.updated, State.setP, State.writeCycle, State.readCycle, State.setMem, State.logBus,
    State.afterReads, State.counted, State.after, State.memByte, ← hn, Nat.add_assoc] using hmem

theorem endsIn_accumulator (h : s.ready) (hop : opClass i = .modify op) (hm : i.mode = .accumulator) :
    EndsIn i s ((s.after i).setAP (op.result s.a s.p)) := by
  have hn : 1 + [s.readsAt s.pc].length = cycleCount i s := by
    rw [cycleCount_of_modify hop, hm]
    rfl
  have hstate := State.afterReads_silent (tmp := s.tmp) hn
  rw [Instr.operandBytes, hm, Mode.operandBytes, BitVec.add_zero] at hstate
  refine (endsInWithBus_accumulator h hop hm s.tmp).endsIn ?_
  rw [State.setAP_silent, State.setAP_silent, hstate]

theorem endsIn_modify (h : s.ready) (hi : opClass i = .modify op ∧ i.mode ≠ .accumulator) :
    EndsIn i s
      (((s.after i).setMem (s.effectiveAddr i.mode) (op.result (s.operandByte i.mode) s.p).1).setP
        (op.result (s.operandByte i.mode) s.p).2) :=
  (endsInWithBus_modify h hi.left rfl hi.right s.tmp).endsIn <| State.afterReads_updated_silent <|
    (length_storeReads_of_modify hi.left hi.right s).trans (cycleCount_of_modify hi.left).symm

end

/-! ## Shifted bytes as numbers -/

theorem ofNat_toNat_mul_two (v : Byte) : BitVec.ofNat 8 (v.toNat * 2) = v <<< 1 := by
  simp [← BitVec.toNat_inj, Nat.shiftLeft_eq]

theorem ofNat_toNat_div_two (v : Byte) : BitVec.ofNat 8 (v.toNat / 2) = v >>> 1 := by
  rw [← BitVec.toNat_inj, BitVec.toNat_ofNat, BitVec.toNat_ushiftRight, Nat.shiftRight_eq_div_pow]
  omega

end Sys2Proof.Machine

namespace Sys2Proof.Machine

/-- Settles O38: each is class M, whose function shifts the byte as a number, the carry brought in by the rotates. -/
theorem shiftsAndRotates : Obligations.ShiftsAndRotates := by
  unfold Obligations.ShiftsAndRotates
  intro s h
  simp only [ofNat_emod_256, ofNat_toNat_mul_two, ofNat_toNat_div_two, ← carryNat_eq_toNat]
  exact ⟨endsIn_accumulator h (op := .asl) rfl rfl, endsIn_accumulator h (op := .lsr) rfl rfl,
    endsIn_accumulator h (op := .rol) rfl rfl, endsIn_accumulator h (op := .ror) rfl rfl,
    fun i hi => endsIn_modify h (op := .asl) (by revert i; decide),
    fun i hi => endsIn_modify h (op := .lsr) (by revert i; decide),
    fun i hi => endsIn_modify h (op := .rol) (by revert i; decide),
    fun i hi => endsIn_modify h (op := .ror) (by revert i; decide)⟩

/-- Settles O39: INC and DEC are class M on memory, the others class I, and their functions write N and Z alone. -/
theorem incrementsAndDecrements : Obligations.IncrementsAndDecrements := by
  unfold Obligations.IncrementsAndDecrements
  intro s h
  exact ⟨fun i hi => endsIn_modify h (op := .inc) (by revert i; decide),
    fun i hi => endsIn_modify h (op := .dec) (by revert i; decide),
    endsIn_implied h (op := .inx) rfl, endsIn_implied h (op := .iny) rfl, endsIn_implied h (op := .dex) rfl,
    endsIn_implied h (op := .dey) rfl⟩

end Sys2Proof.Machine

/-!
SUPPORT. The cycles of the pushes and pulls (20 R80), and the state that each stack instruction leaves (44 R260 to R263).
-/

namespace Sys2Proof.Machine

/-- An instruction without a conditional cycle ends in the state that its cycles give one after the other. -/
theorem endsInWithBus_straight {i : Instr} {s t : State} (h : s.ready)
    (hq : (cyclesOf i).all fun op => !op.mayPush && !op.mayHalt)
    (ht : (cyclesOf i).foldl quietCycle s.counted = t) : EndsInWithBus i s t :=
  ⟨_, exec_straight h hq, congrArg State.settled ht⟩

section

variable (s : State)

/-! ## Registers across a read and the count of T1 -/

@[simp] theorem State.readCycle_a (addr : Word) : (s.readCycle addr).a = s.a := rfl
@[simp] theorem State.counted_a : s.counted.a = s.a := rfl
@[simp] theorem State.counted_pc : s.counted.pc = s.pc := rfl
@[simp] theorem State.counted_sp : s.counted.sp = s.sp := rfl
@[simp] theorem State.counted_p : s.counted.p = s.p := rfl
@[simp] theorem State.counted_mem : s.counted.mem = s.mem := rfl

/-! ## The cycles that push and pull -/

@[simp] theorem quietCycle_pushA : quietCycle s .pushA = (s.writeCycle (stackAddr s.sp) s.a).decS := rfl

@[simp] theorem quietCycle_pushP :
    quietCycle s .pushP = (s.writeCycle (stackAddr s.sp) (s.p ||| 0x30#8)).decS := rfl

@[simp] theorem quietCycle_dummyStackPull :
    quietCycle s .dummyStackPull = (s.readCycle (stackAddr s.sp)).incS := rfl

@[simp] theorem quietCycle_pullA :
    quietCycle s .pullA =
      (s.readCycle (stackAddr s.sp)).setAP
        (s.memByte (stackAddr s.sp), putNZ s.p (s.memByte (stackAddr s.sp))) := rfl

@[simp] theorem quietCycle_pullP :
    quietCycle s .pullP = (s.readCycle (stackAddr s.sp)).setP (s.memByte (stackAddr s.sp)) := rfl

/-! ## What a push and a pull leave -/

/-- `s` after an instruction that pushes a byte (44 R260, R261). -/
def State.pushed (v : Byte) : State :=
  { s.setMem (stackAddr s.sp) v with
    sp := s.sp - 1#8
    cycles := s.cycles + 3
    bus := s.bus ++ [s.readsAt s.pc, .write (stackAddr s.sp) v] }

/-- `s` after an instruction that pulls a byte, apart from the register it loads (44 R262, R263). -/
def State.pulled : State :=
  { s with
    sp := s.sp + 1#8
    cycles := s.cycles + 4
    bus := s.bus ++ [s.readsAt s.pc, s.readsAt (stackAddr s.sp), s.readsAt (stackAddr (s.sp + 1#8))] }

theorem State.decS_writeCycle_eq_pushed (v : Byte) :
    ((s.counted.readCycle s.pc).writeCycle (stackAddr s.sp) v).decS = s.pushed v := by
  simp [State.pushed, State.counted, State.readCycle, State.writeCycle, State.decS, State.setMem, State.logBus,
    State.readsAt, State.memByte]

theorem State.readCycle_incS_eq_pulled :
    ((s.counted.readCycle s.pc).readCycle (stackAddr s.sp)).incS.readCycle (stackAddr (s.sp + 1#8)) = s.pulled := by
  simp [State.pulled, State.counted, State.readCycle, State.incS, State.logBus, State.readsAt, State.memByte]

theorem foldl_cyclesPha : cyclesPha.foldl quietCycle s.counted = s.pushed s.a := by
  simp [cyclesPha, quietCycle_dummyPc, ← s.decS_writeCycle_eq_pushed]

theorem foldl_cyclesPhp : cyclesPhp.foldl quietCycle s.counted = s.pushed (s.p ||| 0x30#8) := by
  simp [cyclesPhp, quietCycle_dummyPc, ← s.decS_writeCycle_eq_pushed]

theorem foldl_cyclesPla :
    cyclesPla.foldl quietCycle s.counted =
      s.pulled.setAP (s.memByte (stackAddr (s.sp + 1#8)), putNZ s.p (s.memByte (stackAddr (s.sp + 1#8)))) := by
  simp [cyclesPla, quietCycle_dummyPc, ← s.readCycle_incS_eq_pulled, State.memByte]

theorem foldl_cyclesPlp :
    cyclesPlp.foldl quietCycle s.counted = s.pulled.setP (s.memByte (stackAddr (s.sp + 1#8))) := by
  simp [cyclesPlp, quietCycle_dummyPc, ← s.readCycle_incS_eq_pulled, State.memByte]

end

end Sys2Proof.Machine

namespace Sys2Proof.Machine

/-- Settles O40: none has a conditional cycle, and its cycles make the accesses and writes of its table in their
order. -/
theorem stackInstructions : Obligations.StackInstructions := by
  unfold Obligations.StackInstructions
  intro s h
  exact ⟨endsInWithBus_straight h rfl (foldl_cyclesPha s), endsInWithBus_straight h rfl (foldl_cyclesPhp s),
    endsInWithBus_straight h rfl (foldl_cyclesPla s), endsInWithBus_straight h rfl (foldl_cyclesPlp s)⟩

end Sys2Proof.Machine

/-!
SUPPORT. Jumps, subroutines, returns and the entry of BRK: runs of reads, the cycles that load PC, the word that a push
leaves on the stack, and the state that each instruction leaves (45 R270 to R275, 20 R80, R81).
-/

namespace Sys2Proof.Machine

/-! ## The bytes of a word (00 R10) -/

theorem hiByte_wordOf (hi lo : Byte) : hiByte (wordOf hi lo) = hi := by
  unfold hiByte wordOf
  exact BitVec.extractLsb'_append_eq_left

@[simp] theorem wordOf_hiByte_loByte (w : Word) : wordOf (hiByte w) (loByte w) = w := by
  have hw := w.isLt
  apply BitVec.eq_of_toNat_eq
  rw [toNat_wordOf, hiByte, loByte, BitVec.extractLsb'_toNat, BitVec.extractLsb'_toNat, Nat.shiftRight_eq_div_pow]
  omega

/-! ## The stack page and the vectors (20 R80, R81) -/

theorem stackAddr_inj {a b : Byte} : stackAddr a = stackAddr b ↔ a = b := by
  refine ⟨fun h => ?_, congrArg stackAddr⟩
  have hnat := congrArg BitVec.toNat h
  simp only [stackAddr, toNat_wordOf] at hnat
  exact BitVec.eq_of_toNat_eq (by omega)

/-- A push leaves the bytes outside the stack page alone (20 R80). -/
theorem State.memByte_setMem_stackAddr {addr : Word} (h : hiByte addr ≠ 0x01#8) (s : State) (sp v : Byte) :
    (s.setMem (stackAddr sp) v).memByte addr = s.memByte addr := by
  rw [s.memByte_setMem, if_neg]
  rintro rfl
  exact h (hiByte_wordOf _ _)

/-- No vector is in the stack page (20 R81). -/
theorem hiByte_vectorAddr (v : Vector) :
    hiByte (vectorAddr v) ≠ 0x01#8 ∧ hiByte (vectorAddr v + 1#16) ≠ 0x01#8 := by
  cases v <;> decide

/-- The memory of `s` with a word pushed, the high byte first (20 R80). -/
def State.pushedWord (s : State) (w : Word) : State :=
  (s.setMem (stackAddr s.sp) (hiByte w)).setMem (stackAddr (s.sp - 1#8)) (loByte w)

/-- The two bytes of a pushed word are in two slots, also where S wraps between them (20 R80). -/
theorem State.memByte_pushedWord (s : State) (w : Word) :
    (s.pushedWord w).memByte (stackAddr s.sp) = hiByte w ∧
      (s.pushedWord w).memByte (stackAddr (s.sp - 1#8)) = loByte w := by
  have hslots : stackAddr s.sp ≠ stackAddr (s.sp - 1#8) := by
    rw [ne_eq, stackAddr_inj]
    bv_omega
  simp [State.pushedWord, State.memByte_setMem, hslots]

/-! ## Runs of reads -/

section

variable (s : State) (addr pc pc' : Word) (tmp tmp' : Temps) (reads reads' : List BusCycle) (v : Byte)

/-- `s` with the temporaries written. -/
def State.setTmp : State := { s with tmp := tmp }

/-- `s` with S written. -/
def State.setS : State := { s with sp := v }

theorem State.readCycle_eq_afterReads : s.readCycle addr = s.afterReads s.pc s.tmp [s.readsAt addr] := rfl

@[simp] theorem State.afterReads_afterReads :
    (s.afterReads pc tmp reads).afterReads pc' tmp' reads' = s.afterReads pc' tmp' (reads ++ reads') := by
  simp [State.afterReads, Nat.add_assoc]

@[simp] theorem State.afterReads_pc : (s.afterReads pc tmp reads).pc = pc := rfl
@[simp] theorem State.afterReads_sp : (s.afterReads pc tmp reads).sp = s.sp := rfl
@[simp] theorem State.afterReads_memByte : (s.afterReads pc tmp reads).memByte addr = s.memByte addr := rfl
@[simp] theorem State.afterReads_readsAt : (s.afterReads pc tmp reads).readsAt addr = s.readsAt addr := rfl
@[simp] theorem State.afterReads_setTmp : (s.afterReads pc tmp reads).setTmp tmp' = s.afterReads pc tmp' reads := rfl
@[simp] theorem State.afterReads_advance :
    (s.afterReads pc tmp reads).advance = s.afterReads (pc + 1#16) tmp reads := rfl
@[simp] theorem State.afterReads_latchLo :
    (s.afterReads pc tmp reads).latchLo v = s.afterReads pc { tmp with lo := v } reads := rfl
@[simp] theorem State.afterReads_jumpHi :
    (s.afterReads pc tmp reads).jumpHi v = s.afterReads (wordOf v tmp.lo) { tmp with hi := v } reads := rfl
@[simp] theorem State.afterReads_incS :
    (s.afterReads pc tmp reads).incS = (s.setS (s.sp + 1#8)).afterReads pc tmp reads := rfl
@[simp] theorem State.afterReads_setP :
    (s.afterReads pc tmp reads).setP v = (s.setP v).afterReads pc tmp reads := rfl
@[simp] theorem State.afterReads_settled :
    (s.afterReads pc tmp reads).settled = s.settled.afterReads pc {} reads := rfl

@[simp] theorem State.setS_sp : (s.setS v).sp = v := rfl
@[simp] theorem State.setS_memByte : (s.setS v).memByte addr = s.memByte addr := rfl
@[simp] theorem State.setS_readsAt : (s.setS v).readsAt addr = s.readsAt addr := rfl
@[simp] theorem State.setS_setS (w : Byte) : (s.setS v).setS w = s.setS w := rfl
@[simp] theorem State.setP_setS (w : Byte) : (s.setP v).setS w = (s.setS w).setP v := rfl
@[simp] theorem State.setP_sp : (s.setP v).sp = s.sp := rfl
@[simp] theorem State.setP_memByte : (s.setP v).memByte addr = s.memByte addr := rfl
@[simp] theorem State.setP_readsAt : (s.setP v).readsAt addr = s.readsAt addr := rfl
@[simp] theorem State.counted_memByte : s.counted.memByte addr = s.memByte addr := rfl
@[simp] theorem State.counted_readsAt : s.counted.readsAt addr = s.readsAt addr := rfl

end

/-! ## The cycles that load PC -/

section

variable (s : State)

@[simp] theorem quietCycle_fetchHiJump :
    quietCycle s .fetchHiJump = (s.readCycle s.pc).jumpHi (s.memByte s.pc) := rfl

@[simp] theorem quietCycle_fetchPointerLo :
    quietCycle s .fetchPointerLo = (s.readCycle s.pc).advance.setTmp { s.tmp with plo := s.memByte s.pc } := rfl

@[simp] theorem quietCycle_fetchPointerHi :
    quietCycle s .fetchPointerHi = (s.readCycle s.pc).advance.setTmp { s.tmp with phi := s.memByte s.pc } := rfl

@[simp] theorem quietCycle_indirectLo :
    quietCycle s .indirectLo =
      (s.readCycle (wordOf s.tmp.phi s.tmp.plo)).latchLo (s.memByte (wordOf s.tmp.phi s.tmp.plo)) := rfl

@[simp] theorem quietCycle_indirectHiJump :
    quietCycle s .indirectHiJump =
      (s.readCycle (wordOf s.tmp.phi (s.tmp.plo + 1#8))).jumpHi
        (s.memByte (wordOf s.tmp.phi (s.tmp.plo + 1#8))) := rfl

@[simp] theorem quietCycle_pullLo :
    quietCycle s .pullLo = ((s.readCycle (stackAddr s.sp)).latchLo (s.memByte (stackAddr s.sp))).incS := rfl

@[simp] theorem quietCycle_pullHiJump :
    quietCycle s .pullHiJump = (s.readCycle (stackAddr s.sp)).jumpHi (s.memByte (stackAddr s.sp)) := rfl

@[simp] theorem quietCycle_pullPAdvance :
    quietCycle s .pullPAdvance = (s.readCycle (stackAddr s.sp)).incS.setP (s.memByte (stackAddr s.sp)) := rfl

@[simp] theorem quietCycle_pushStatus (b : Bool) :
    quietCycle s (.pushStatus b) =
      (s.writeCycle (stackAddr s.sp) (statusPushed s.p b)).decS.setP (putFlag s.p .i true) := rfl

@[simp] theorem quietCycle_vectorHi (v : Vector) (ends : Bool) :
    quietCycle s (.vectorHi v ends) =
      { (s.readCycle (vectorAddr v + 1#16)).jumpHi (s.memByte (vectorAddr v + 1#16)) with
        servicing := if ends then false else s.servicing } := rfl

/-! ## Vectored entry (45 R275, 60 R341, R342) -/

/-- The memory of `s` with PC and the status pushed, B as given (60 R341 T3 to T5). -/
def State.pushedEntry (b : Bool) : State :=
  (s.pushedWord s.pc).setMem (stackAddr (s.sp - 2#8)) (statusPushed s.p b)

/-- `s` after T3 to T7 of the entry that IRQ, NMI and BRK share (45 R275, 60 R341, R342). -/
def State.entered (b : Bool) (v : Vector) (ends : Bool) : State :=
  { s.pushedEntry b with
    sp := s.sp - 3#8
    p := putFlag s.p .i true
    pc := wordOf (s.memByte (vectorAddr v + 1#16)) (s.memByte (vectorAddr v))
    tmp := { s.tmp with lo := s.memByte (vectorAddr v), hi := s.memByte (vectorAddr v + 1#16) }
    servicing := if ends then false else s.servicing
    cycles := s.cycles + 5
    bus :=
      s.bus ++
        [.write (stackAddr s.sp) (hiByte s.pc), .write (stackAddr (s.sp - 1#8)) (loByte s.pc),
          .write (stackAddr (s.sp - 2#8)) (statusPushed s.p b), s.readsAt (vectorAddr v),
          s.readsAt (vectorAddr v + 1#16)] }

/-- The pushes of an entry leave the bytes outside the stack page alone, the vectors among them. -/
theorem State.memByte_pushedEntry {addr : Word} (h : hiByte addr ≠ 0x01#8) (b : Bool) :
    (s.pushedEntry b).memByte addr = s.memByte addr := by
  simp only [State.pushedEntry, State.pushedWord, State.memByte_setMem_stackAddr h]

theorem foldl_entryCycles (first : MicroOp) (b : Bool) (v : Vector) (ends : Bool) :
    (entryCycles first b v ends).foldl quietCycle s = (quietCycle s first).entered b v ends := by
  generalize hu : quietCycle s first = u
  obtain ⟨hlo, hhi⟩ := hiByte_vectorAddr v
  rw [State.entered, State.readsAt, State.readsAt, ← u.memByte_pushedEntry hlo b, ← u.memByte_pushedEntry hhi b]
  simp [entryCycles, hu, quietCycle_vectorLo, State.pushedEntry, State.pushedWord, State.readCycle, State.writeCycle,
    State.setMem, State.logBus, State.setP, State.decS, State.jumpHi, State.latchHi, State.latchLo, State.memByte,
    State.readsAt, BitVec.sub_sub]

/-! ## The states that the instructions leave, apart from the temporaries (45 R270 to R274) -/

theorem foldl_cyclesJmpAbs_settled :
    (cyclesJmpAbs.foldl quietCycle s.counted).settled =
      (s.counted.afterReads (wordOf s.operand2 s.operand1) s.tmp
        [s.readsAt s.pc, s.readsAt (s.pc + 1#16)]).settled := by
  simp [cyclesJmpAbs, State.readCycle_eq_afterReads, State.operand1, State.operand2]

theorem foldl_cyclesJmpInd_settled :
    let atLo := wordOf s.operand2 s.operand1
    let atHi := wordOf s.operand2 (s.operand1 + 1#8)
    (cyclesJmpInd.foldl quietCycle s.counted).settled =
      (s.counted.afterReads (wordOf (s.memByte atHi) (s.memByte atLo)) s.tmp
        [s.readsAt s.pc, s.readsAt (s.pc + 1#16), s.readsAt atLo, s.readsAt atHi]).settled := by
  simp [cyclesJmpInd, State.readCycle_eq_afterReads, State.operand1, State.operand2]

/-- JSR reads the target's high byte from the memory that its pushes left. -/
theorem foldl_cyclesJsr_settled :
    let ret := s.pc + 1#16
    let pushed := s.pushedWord ret
    (cyclesJsr.foldl quietCycle s.counted).settled =
      { pushed with
        sp := s.sp - 2#8
        pc := wordOf (pushed.memByte ret) (s.memByte s.pc)
        cycles := s.cycles + 6
        bus :=
          s.bus ++
            [s.readsAt s.pc, s.readsAt (stackAddr s.sp), .write (stackAddr s.sp) (hiByte ret),
              .write (stackAddr (s.sp - 1#8)) (loByte ret), pushed.readsAt ret] }.settled := by
  simp [cyclesJsr, quietCycle_dummyStack, State.readCycle_eq_afterReads, State.pushedWord, State.settled,
    State.afterReads, State.writeCycle, State.counted, State.setMem, State.logBus, State.jumpHi, State.latchHi,
    State.decS, State.memByte, State.readsAt, BitVec.sub_sub]

theorem foldl_cyclesRts_settled :
    let pulled := wordOf (s.memByte (stackAddr (s.sp + 2#8))) (s.memByte (stackAddr (s.sp + 1#8)))
    (cyclesRts.foldl quietCycle s.counted).settled =
      ((s.counted.setS (s.sp + 2#8)).afterReads (pulled + 1#16) s.tmp
        [s.readsAt s.pc, s.readsAt (stackAddr s.sp), s.readsAt (stackAddr (s.sp + 1#8)),
          s.readsAt (stackAddr (s.sp + 2#8)), s.readsAt pulled]).settled := by
  simp [cyclesRts, quietCycle_dummyPc, State.readCycle_eq_afterReads, BitVec.add_assoc]

theorem foldl_cyclesRti_settled :
    let slot := fun k : Byte => stackAddr (s.sp + k)
    (cyclesRti.foldl quietCycle s.counted).settled =
      (((s.counted.setS (s.sp + 3#8)).setP (s.memByte (slot 1#8))).afterReads
        (wordOf (s.memByte (slot 3#8)) (s.memByte (slot 2#8))) s.tmp
        [s.readsAt s.pc, s.readsAt (stackAddr s.sp), s.readsAt (slot 1#8), s.readsAt (slot 2#8),
          s.readsAt (slot 3#8)]).settled := by
  simp [cyclesRti, returnCycles, quietCycle_dummyPc, State.readCycle_eq_afterReads, BitVec.add_assoc]

/-- BRK is the entry through the IRQ vector after its padding byte, and ends no service (45 R275). -/
theorem foldl_cyclesBrk :
    cyclesBrk.foldl quietCycle s.counted =
      (s.counted.afterReads (s.pc + 1#16) s.tmp [s.readsAt s.pc]).entered true .irq false :=
  foldl_entryCycles s.counted .dummyPcAdvance true .irq false

end

/-- An instruction without a conditional cycle ends in a state that is, but for the temporaries, the one that its cycles
give one after the other. -/
theorem endsInWithBus_straight_settled {i : Instr} {s t : State} (h : s.ready)
    (hq : (cyclesOf i).all fun op => !op.mayPush && !op.mayHalt)
    (ht : ((cyclesOf i).foldl quietCycle s.counted).settled = t.settled) : EndsInWithBus i s t :=
  ⟨_, exec_straight h hq, ht⟩

end Sys2Proof.Machine

namespace Sys2Proof.Machine

/-- Settles O41: neither has a conditional cycle, and its cycles only read; the pointer's high byte is the page of both
reads of JMP indirect. -/
theorem jumpsSetPc : Obligations.JumpsSetPc := by
  unfold Obligations.JumpsSetPc
  intro s h
  simp only [List.append_assoc, List.cons_append, List.nil_append]
  exact ⟨endsInWithBus_straight_settled h rfl (foldl_cyclesJmpAbs_settled s),
    endsInWithBus_straight_settled h rfl (foldl_cyclesJmpInd_settled s)⟩

/-- Settles O42: JSR pushes the address of its last byte before it reads that byte; RTS pulls an address and advances
PC by one from there. -/
theorem jsrAndRts : Obligations.JsrAndRts := by
  unfold Obligations.JsrAndRts
  intro s h
  simp only [BitVec.sub_zero, BitVec.add_zero]
  exact ⟨endsInWithBus_straight_settled h rfl (foldl_cyclesJsr_settled s),
    endsInWithBus_straight_settled h rfl (foldl_cyclesRts_settled s)⟩

/-- Settles O43: RTI pulls P whole, then PC. -/
theorem rtiRestoresStatusAndPc : Obligations.RtiRestoresStatusAndPc := by
  unfold Obligations.RtiRestoresStatusAndPc
  intro s h
  simp only [BitVec.add_zero]
  exact endsInWithBus_straight_settled h rfl (foldl_cyclesRti_settled s)

/-- Settles O44: BRK's cycles are the entry that it shares with IRQ and NMI, with B = 1 and no end of a service. -/
theorem brkEntersTheHandler : Obligations.BrkEntersTheHandler := by
  unfold Obligations.BrkEntersTheHandler
  intro s h
  simp only [BitVec.sub_zero]
  refine endsInWithBus_straight_settled h rfl ((congrArg State.settled (foldl_cyclesBrk s)).trans ?_)
  simp [State.settled, State.entered, State.pushedEntry, State.pushedWord, State.afterReads, State.counted,
    State.setMem, State.memByte, State.readsAt, vectorAddr, statusPushed]

/-- Settles O46: the stack page holds the bytes that the JSR pushed, in the two slots that the RTS pulls them from. -/
theorem rtsReturnsFromJsr : Obligations.RtsReturnsFromJsr := by
  unfold Obligations.RtsReturnsFromJsr
  intro s t u hs hjsr hu hsp hstack
  obtain rfl := Host.Outcome.next.inj ((exec_straight hs rfl).symm.trans hjsr)
  have hleft := foldl_cyclesJsr_settled s
  have hpage (b : Byte) : u.memByte (stackAddr b) = (s.pushedWord (s.pc + 1#16)).memByte (stackAddr b) :=
    (hstack b).trans (congrArg (State.memByte · (stackAddr b)) hleft :)
  have hsp2 : u.sp = s.sp - 2#8 := hsp.trans (congrArg State.sp hleft)
  have hslotHi : u.sp + 2#8 = s.sp := by rw [hsp2, BitVec.sub_add_cancel]
  have hslotLo : u.sp + 1#8 = s.sp - 1#8 := by rw [← hslotHi]; bv_omega
  obtain ⟨hhi, hlo⟩ := s.memByte_pushedWord (s.pc + 1#16)
  have hrts := foldl_cyclesRts_settled u
  rw [hslotHi, hslotLo, hpage, hpage, hhi, hlo, wordOf_hiByte_loByte] at hrts
  rw [word_add_two]
  exact ⟨_, exec_straight hu rfl, (congrArg State.pc hrts :), (congrArg State.sp hrts :)⟩

end Sys2Proof.Machine

/-!
SUPPORT. The branch sequence from a ready state: which of its two conditional cycles run, what they read, and the state
that a branch leaves (45 R276).
-/

namespace Sys2Proof.Machine

/-- The dummy reads of a taken branch: one behind the branch and, where the target is in another page, one at the
target's low byte in the page of the first (45 R276 T3, T4). -/
def State.takenReads (s : State) (following target : Word) : List BusCycle :=
  if hiByte target = hiByte following then [s.readsAt following]
  else [s.readsAt following, s.readsAt (wordOf (hiByte following) (loByte target))]

/-- The dummy reads behind T2 of a branch on a condition, from a state whose PC points to the offset. -/
def State.branchReads (s : State) (c : Condition) : List BusCycle :=
  if c.holds s.p then s.takenReads (s.pc + 1#16) s.branchTarget else []

/-- Where a branch on a condition leads, from a state whose PC points to the offset. -/
def State.branchPc (s : State) (c : Condition) : Word := if c.holds s.p then s.branchTarget else s.pc + 1#16

/-- One cycle of a quiet run by a micro-op that does not halt, the conditional cycle decided on the state it leaves. -/
theorem quietRun_cons_quietCycle {n : Nat} {op : MicroOp} {rest : List MicroOp} {s : State}
    (h : (quietCycle s op).halted = none) :
    quietRun (n + 1) (op :: rest) s = quietRun n (rest ++ op.follow (quietCycle s op)) (quietCycle s op) := by
  have hfollow : op.follow (quietCycle s op) = op.follow (quietOp op s) := by cases op <;> rfl
  rw [hfollow]
  exact quietRun_cons h

/-- A taken branch ends at its target, by the correcting cycle where that is in another page (45 R276 T3, T4). -/
theorem quietRun_branchTake {n : Nat} {s : State} (hh : s.halted = none) (hnil : s.queue = []) :
    quietRun (n + 2) [.branchTake] s =
      s.afterReads s.takeBranch.tmp.newpc s.takeBranch.tmp (s.takenReads s.pc s.takeBranch.tmp.newpc) := by
  have hpc : s.takeBranch.pc = wordOf (hiByte s.pc) (loByte s.takeBranch.tmp.newpc) := rfl
  have hcycle : quietCycle s .branchTake = s.afterReads s.takeBranch.pc s.takeBranch.tmp [s.readsAt s.pc] := rfl
  have hfollow : MicroOp.branchTake.follow (quietCycle s .branchTake) =
      if hiByte s.takeBranch.tmp.newpc = hiByte s.pc then [] else [.branchCorrect] := by
    rw [hcycle]
    simp [MicroOp.follow, State.takeBranch]
  rw [quietRun_cons_quietCycle (by exact hh), List.nil_append, hfollow, hcycle, hpc, State.takenReads]
  split
  · next hpage =>
    rw [quietRun_eq_foldl (by exact hh) (by exact hnil) rfl (Nat.zero_le _), ← hpage, wordOf_hiByte_loByte,
      List.foldl_nil]
  · rw [quietRun_eq_foldl (by exact hh) (by exact hnil) rfl (Nat.le_add_left 1 n)]
    exact s.afterReads_afterReads _ _ _ _ [s.readsAt s.pc] [_]

theorem cyclesOf_of_branch {i : Instr} {c : Condition} (h : opClass i = .branch c) :
    cyclesOf i = [] ++ [.branchFetch c] := by
  cases i <;> cases h <;> rfl

/-- Class B from a ready state, whatever temporaries it is compared with (45 R276). -/
theorem endsInWithBus_branch {i : Instr} {s : State} {c : Condition} (h : s.ready) (hop : opClass i = .branch c)
    (tmp : Temps) :
    EndsInWithBus i s (s.counted.afterReads (s.branchPc c) tmp (s.readsAt s.pc :: s.branchReads c)) := by
  obtain ⟨-, hh, -, hnil⟩ := s.ready_iff.1 h
  refine ⟨_, exec_append h (cyclesOf_of_branch hop) rfl, ?_⟩
  have hcycle : quietCycle s.counted (.branchFetch c) =
      s.counted.afterReads (s.pc + 1#16) { s.tmp with off := s.operand1 } [s.readsAt s.pc] := rfl
  have hfollow : (MicroOp.branchFetch c).follow (quietCycle s.counted (.branchFetch c)) =
      if c.holds s.p then [.branchTake] else [] := rfl
  rw [List.foldl_nil, quietRun_cons_quietCycle (by exact hh), List.nil_append, hfollow, hcycle, State.branchPc,
    State.branchReads]
  split
  · rw [List.length_nil, quietRun_branchTake (by exact hh) (by exact hnil), State.afterReads_afterReads]
    rfl
  · rw [quietRun_eq_foldl (by exact hh) (by exact hnil) rfl (Nat.zero_le _)]
    rfl

theorem cycleCount_of_branch {i : Instr} {s : State} {c : Condition} (h : opClass i = .branch c) :
    cycleCount i s =
      if c.holds s.p then (if hiByte s.branchTarget = hiByte (s.pc + 1#16) then 3 else 4) else 2 := by
  rw [cycleCount, h]

/-- A branch takes a cycle for T1, one for T2 and one for each of the reads behind (45 R276). -/
theorem length_branchReads {i : Instr} {c : Condition} (h : opClass i = .branch c) (s : State) :
    2 + (s.branchReads c).length = cycleCount i s := by
  rw [cycleCount_of_branch h, State.branchReads, State.takenReads]
  split
  · split <;> rfl
  · rfl

/-- A branch from a ready state, without the record of bus cycles (45 R276, 40 R154). -/
theorem endsIn_branch {i : Instr} {s : State} {c : Condition} (h : s.ready) (hop : opClass i = .branch c) :
    EndsIn i s { s with pc := s.branchPc c, cycles := s.cycles + cycleCount i s } := by
  refine (endsInWithBus_branch h hop s.tmp).endsIn ?_
  simp [State.silent, State.afterReads, State.counted, ← length_branchReads hop]
  omega

end Sys2Proof.Machine

namespace Sys2Proof.Machine

/-- Settles O45: each is class B, on its flag and the value that the flag must have. -/
theorem branchesTestTheirFlag : Obligations.BranchesTestTheirFlag := by
  unfold Obligations.BranchesTestTheirFlag
  intro s h
  exact ⟨endsIn_branch h (c := .carryClear) rfl, endsIn_branch h (c := .carrySet) rfl,
    endsIn_branch h (c := .notEqual) rfl, endsIn_branch h (c := .equal) rfl, endsIn_branch h (c := .plus) rfl,
    endsIn_branch h (c := .minus) rfl, endsIn_branch h (c := .overflowClear) rfl,
    endsIn_branch h (c := .overflowSet) rfl⟩

end Sys2Proof.Machine

namespace Sys2Proof

section

open Machine

/-- Settles O26: the condition decides whether the cycle behind T2 follows, and the pages whether the one after that
does. (Named outside `Machine`, where `branchCycles` is the model's cycle sequence.) -/
theorem branchCycles : Obligations.BranchCycles := by
  unfold Obligations.BranchCycles
  intro s i c h hop
  rw [word_add_two]
  intro following target ends
  have hstep := stepsTo_of_fetches h (endsInWithBus_branch (State.fetched_ready h.1) hop s.tmp)
  rw [State.branchPc, State.branchReads, State.takenReads] at hstep
  split
  · next hyes =>
    rw [if_pos (by exact hyes), if_pos (by exact hyes)] at hstep
    split
    · next hpage =>
      rw [if_pos (by exact hpage)] at hstep
      exact hstep
    · next hpage =>
      rw [if_neg (by exact hpage)] at hstep
      exact hstep
  · next hno =>
    rw [if_neg (by exact hno), if_neg (by exact hno)] at hstep
    exact hstep

end

end Sys2Proof

/-!
SUPPORT. An implied instruction has no operand byte and takes 2 cycles, so that the state behind it is the one it starts
from but for the count (40 R154).
-/

namespace Sys2Proof.Machine

theorem State.after_of_implied {i : Instr} {op : ImpliedOp} (s : State) (h : opClass i = .implied op) :
    s.after i = { s with cycles := s.cycles + 2 } := by
  rw [State.after, operandBytes_of_implied h, cycleCount_of_implied h, BitVec.add_zero]

/-- `endsIn_implied` with the state behind the instruction written out. -/
theorem endsIn_implied_counted {i : Instr} {s : State} {op : ImpliedOp} (h : s.ready) (hop : opClass i = .implied op) :
    EndsIn i s (op.apply { s with cycles := s.cycles + 2 }) :=
  s.after_of_implied hop ▸ endsIn_implied h hop

end Sys2Proof.Machine

namespace Sys2Proof.Machine

/-- Settles O48: each is class I, whose function writes its one flag, and NOP's writes nothing. -/
theorem flagInstructionsWriteOneFlag : Obligations.FlagInstructionsWriteOneFlag := by
  unfold Obligations.FlagInstructionsWriteOneFlag
  intro s h
  exact ⟨endsIn_implied_counted h (op := .clc) rfl, endsIn_implied_counted h (op := .sec) rfl,
    endsIn_implied_counted h (op := .cli) rfl, endsIn_implied_counted h (op := .sei) rfl,
    endsIn_implied_counted h (op := .cld) rfl, endsIn_implied_counted h (op := .sed) rfl,
    endsIn_implied_counted h (op := .clv) rfl, endsIn_implied_counted h (op := .nop) rfl⟩

end Sys2Proof.Machine

/-!
SUPPORT. An instruction that only its last cycle can halt, and the cycles of HALT, TEST and TRAP (47 R310 to R313).
-/

namespace Sys2Proof.Machine

/-- From a state with nothing queued, a last cycle that pushes no other is performed whether or not it halts. -/
theorem quietRun_singleton {n : Nat} {op : MicroOp} {s : State} (hnil : s.queue = []) (hpush : op.mayPush = false) :
    quietRun (n + 1) [op] s = quietCycle s op := by
  have hqueue : (quietCycle s op).queue = [] := (quietCycle_queue s op).trans hnil
  rw [quietRun, op.follow_of_not_mayPush hpush, List.append_nil]
  split
  · rw [← hqueue]; rfl
  · rw [quietRun_nil, ← hqueue]; rfl

/-- An instruction whose last cycle alone may halt, and which has no conditional cycle, ends in a state that is, but for
the temporaries, the one that its cycles give one after the other. -/
theorem endsInWithBus_haltsLast {i : Instr} {s t : State} {q : List MicroOp} {op : MicroOp} (h : s.ready)
    (hi : cyclesOf i = q ++ [op]) (hq : q.all fun op => !op.mayPush && !op.mayHalt) (hpush : op.mayPush = false)
    (ht : (quietCycle (q.foldl quietCycle s.counted) op).settled = t.settled) : EndsInWithBus i s t := by
  obtain ⟨-, -, -, hnil⟩ := s.ready_iff.1 h
  have hqueue : (q.foldl quietCycle s.counted).queue = [] := (foldl_quietCycle_queue q s.counted).trans hnil
  exact ⟨_, exec_append h hi hq, (congrArg State.settled (quietRun_singleton hqueue hpush)).trans ht⟩

theorem debugCondition_iff {p mask expect : Byte} :
    debugCondition p mask expect ↔ p &&& mask = expect &&& mask := decide_eq_true_iff

section

variable (s : State)

/-! ## The cycles of HALT, TEST and TRAP -/

@[simp] theorem State.counted_tmp : s.counted.tmp = s.tmp := rfl

theorem quietCycle_haltNow : quietCycle s .haltNow = (s.readCycle s.pc).halt .halted := rfl

theorem quietCycle_fetchMask :
    quietCycle s .fetchMask =
      s.afterReads (s.pc + 1#16) { s.tmp with mask := s.memByte s.pc } [s.readsAt s.pc] := rfl

theorem quietCycle_testFlags :
    quietCycle s .testFlags =
      if debugCondition s.p s.tmp.mask (s.memByte s.pc) then (s.readCycle s.pc).advance
      else (s.readCycle s.pc).advance.halt .testMismatch :=
  apply_ite State.counted _ _ _

theorem quietCycle_trapFlags :
    quietCycle s .trapFlags =
      if debugCondition s.p s.tmp.mask (s.memByte s.pc) then (s.readCycle s.pc).advance.halt .trapped
      else (s.readCycle s.pc).advance :=
  apply_ite State.counted _ _ _

/-- `s` after an instruction that reads two operand bytes from T2 on, the first of them as a mask, apart from any halt
(47 R311, R312). -/
def State.masked : State :=
  s.counted.afterReads (s.pc + 2#16) { s.tmp with mask := s.operand1 } [s.readsAt s.pc, s.readsAt (s.pc + 1#16)]

/-- The read of the expected byte, behind the read of the mask. -/
theorem advance_readCycle_fetchMask :
    ((quietCycle s.counted .fetchMask).readCycle (s.pc + 1#16)).advance = s.masked := by
  simp [quietCycle_fetchMask, State.readCycle_eq_afterReads, State.masked, State.operand1, word_add_two]

theorem quietCycle_testFlags_fetchMask :
    quietCycle (quietCycle s.counted .fetchMask) .testFlags =
      if debugCondition s.p s.operand1 s.operand2 then s.masked else s.masked.halt .testMismatch := by
  rw [quietCycle_testFlags, ← advance_readCycle_fetchMask]
  rfl

theorem quietCycle_trapFlags_fetchMask :
    quietCycle (quietCycle s.counted .fetchMask) .trapFlags =
      if debugCondition s.p s.operand1 s.operand2 then s.masked.halt .trapped else s.masked := by
  rw [quietCycle_trapFlags, ← advance_readCycle_fetchMask]
  rfl

end

theorem endsInWithBus_halt {s : State} (h : s.ready) :
    EndsInWithBus .halt s ((s.counted.readCycle s.pc).halt .halted) :=
  endsInWithBus_haltsLast h (q := []) rfl rfl rfl (congrArg State.settled (quietCycle_haltNow s.counted))

theorem endsInWithBus_test {s : State} (h : s.ready) :
    EndsInWithBus .test s
      (if debugCondition s.p s.operand1 s.operand2 then s.masked else s.masked.halt .testMismatch) :=
  endsInWithBus_haltsLast h (q := [.fetchMask]) rfl rfl rfl
    (congrArg State.settled (quietCycle_testFlags_fetchMask s))

theorem endsInWithBus_trap {s : State} (h : s.ready) :
    EndsInWithBus .trap s
      (if debugCondition s.p s.operand1 s.operand2 then s.masked.halt .trapped else s.masked) :=
  endsInWithBus_haltsLast h (q := [.fetchMask]) rfl rfl rfl
    (congrArg State.settled (quietCycle_trapFlags_fetchMask s))

end Sys2Proof.Machine

namespace Sys2Proof.Machine

/-- Settles O49: only the last cycle can halt; that of TEST halts where the condition fails, that of TRAP where it
holds. -/
theorem debugExtensionsHalt : Obligations.DebugExtensionsHalt := by
  unfold Obligations.DebugExtensionsHalt
  intro s h mask expect cond ended
  have hcond : debugCondition s.p s.operand1 s.operand2 ↔ cond := debugCondition_iff
  have htest := endsInWithBus_test h
  have htrap := endsInWithBus_trap h
  refine ⟨endsInWithBus_halt h, fun hc => ?_, fun hc => ?_, fun hc => ?_, fun hc => ?_⟩
  · rwa [if_pos (hcond.2 hc)] at htest
  · rwa [if_neg (mt hcond.1 hc)] at htest
  · rwa [if_pos (hcond.2 hc)] at htrap
  · rwa [if_neg (mt hcond.1 hc)] at htrap

end Sys2Proof.Machine

/-!
SUPPORT. The engine reads nothing of the pacing clock (60 R378): every operation of a tick gives, on a state with
another clock, what it gives on the state, with that clock.
-/

namespace Sys2Proof.Machine

/-- `s` with another pacing clock. -/
def State.withClock (s : State) (c : Clock) : State := { s with clock := c }

section

variable (s : State) (c : Clock)

/-! ## Peripheral code and the scheduler (60 R361 to R367) -/

theorem State.raise_withClock (f : Fault) : (s.withClock c).raise f = (s.raise f).withClock c :=
  (apply_ite (State.withClock · c) s.fault.isSome s { s with fault := some f }).symm

theorem State.unlessFaulted_withClock {s t u : State} {c : Clock} (h : u = t.withClock c) :
    (s.withClock c).unlessFaulted u = (s.unlessFaulted t).withClock c :=
  h ▸ (apply_ite (State.withClock · c) s.fault.isSome s t).symm

theorem State.schedule_withClock (h : Handle) (d : Int) :
    (s.withClock c).schedule h d = (s.schedule h d).withClock c := by
  unfold State.schedule
  rw [apply_ite (State.withClock · c), apply_ite (State.withClock · c), ← State.raise_withClock]
  rfl

theorem CodeExpr.value_withClock {ρ : Type} (regs : ρ → Byte) (call : Call) (e : CodeExpr ρ) :
    e.value regs call (s.withClock c) = e.value regs call s := by
  induction e with
  | mem hi lo ihi ilo => simp only [CodeExpr.value, ihi, ilo]; rfl
  | add e f ihe ihf | sub e f ihe ihf | and e f ihe ihf | or e f ihe ihf | xor e f ihe ihf =>
    simp only [CodeExpr.value, ihe, ihf]
  | _ => rfl

theorem CodeTest.holds_withClock {ρ : Type} (regs : ρ → Byte) (call : Call) (t : CodeTest ρ) :
    t.holds regs call (s.withClock c) = t.holds regs call s := by
  induction t with
  | eq e f | less e f => simp only [CodeTest.holds, CodeExpr.value_withClock]
  | not t ih => simp only [CodeTest.holds, ih]
  | and t u iht ihu => simp only [CodeTest.holds, iht, ihu]
  | _ => rfl

theorem State.poked_withClock {ρ : Type} (regs : ρ → Byte) (call : Call) (hi lo v : CodeExpr ρ) :
    (s.withClock c).poked regs call hi lo v = (s.poked regs call hi lo v).withClock c := by
  simp only [State.poked, CodeExpr.value_withClock]
  rfl

/-- An action does the same with another clock where its free parts do. -/
theorem Action.run_withClock {onFree : Nat → State → State}
    (hfree : ∀ k s c, onFree k (s.withClock c) = (onFree k s).withClock c) (call : Call) (a : Action) :
    a.run onFree call (s.withClock c) = (a.run onFree call s).withClock c := by
  induction a generalizing s with
  | skip => rfl
  | seq f g ihf ihg => simp only [Action.run, ihf, ihg]
  | ifElse t f g ihf ihg => simp only [Action.run, CodeTest.holds_withClock, ihf, ihg, apply_ite (State.withClock · c)]
  | schedule h d => exact State.unlessFaulted_withClock (s.schedule_withClock c h d)
  | reschedule h d => exact State.unlessFaulted_withClock ((s.unschedule h).schedule_withClock c h d)
  | newTaskScheduled b d => exact State.unlessFaulted_withClock ((s.newTask b).2.schedule_withClock c _ d)
  | poke hi lo v => exact State.unlessFaulted_withClock (s.poked_withClock c noRegs call hi lo v)
  | free k => exact hfree k s c
  | unschedule h | newTask b | requestNmi | requestReset | setIrq n b | setNmi n b =>
    exact State.unlessFaulted_withClock rfl

theorem runFreeAction_withClock (k : Nat) : runFreeAction k (s.withClock c) = (runFreeAction k s).withClock c :=
  Action.run_withClock s c (fun _ _ _ => rfl) _ _

theorem runAction_withClock (call : Call) (a : Action) :
    runAction call a (s.withClock c) = (runAction call a s).withClock c := by
  unfold runAction
  rw [Action.run_withClock s c (fun k s c => runFreeAction_withClock s c k)]
  exact State.unlessFaulted_withClock rfl

theorem fireTask_withClock (h : Handle) : fireTask (s.withClock c) h = (fireTask s h).withClock c := by
  have hsched : (s.withClock c).sched = s.sched := rfl
  have hrun (t : Task) : runAction {} t.action ((s.withClock c).unschedule h) =
      (runAction {} t.action (s.unschedule h)).withClock c := runAction_withClock (s.unschedule h) c {} t.action
  unfold fireTask
  rw [hsched]
  split
  · rfl
  · rw [State.unlessFaulted_withClock (hrun _), apply_ite (State.withClock · c)]

theorem foldl_fireTask_withClock (hs : List Handle) :
    hs.foldl fireTask (s.withClock c) = (hs.foldl fireTask s).withClock c := by
  induction hs generalizing s with
  | nil => rfl
  | cons h hs ih => rw [List.foldl_cons, fireTask_withClock, ih, List.foldl_cons]

theorem schedulerPass_withClock : schedulerPass (s.withClock c) = (schedulerPass s).withClock c :=
  foldl_fireTask_withClock { s with sched := { s.sched with tasks := decrementLive s.sched.tasks } } c _

theorem startTick_withClock : startTick (s.withClock c) = (startTick s).withClock c := by
  unfold startTick
  rw [schedulerPass_withClock, apply_ite (State.withClock · c)]
  rfl

theorem endTick_withClock : endTick (s.withClock c) = (endTick s).withClock c := by
  unfold endTick
  rw [schedulerPass_withClock, apply_ite (State.withClock · c)]
  rfl

/-! ## The bus and a cycle (20 R71, R72) -/

/-- An answer of the bus, the state after it with another clock. -/
def Answer.withClock (c : Clock) : Answer → Answer
  | .unmapped f => .unmapped f
  | .done v s => .done v (s.withClock c)

theorem busAccess_withClock (acc : Access) : busAccess (s.withClock c) acc = (busAccess s acc).withClock c := by
  have hmapped (addr : Word) : (s.withClock c).mapped addr = s.mapped addr := rfl
  have hdevice (addr : Word) : (s.withClock c).deviceAt addr = s.deviceAt addr := rfl
  cases acc with
  | read addr =>
    simp only [busAccess, busRead, hmapped, hdevice]
    split
    · split
      · rfl
      · exact congrArg (Answer.done _)
          (runAction_withClock ({ s with busDraws := s.busDraws + 1 }.logBus _) c _ _)
    · rfl
  | write addr v =>
    simp only [busAccess, busWrite, hmapped, hdevice]
    split
    · split
      · rfl
      · exact congrArg (Answer.done _) (runAction_withClock (s.logBus _) c _ _)
    · rfl

theorem enqueue_withClock (ops : List MicroOp) :
    enqueue ops (s.withClock c) = (enqueue ops s).map (State.withClock · c) := by
  induction ops generalizing s with
  | nil => rfl
  | cons op ops ih =>
    unfold enqueue
    rw [apply_ite (Option.map (State.withClock · c)), ← ih]
    rfl

theorem pushAll_withClock (ops : List MicroOp) : pushAll ops (s.withClock c) = (pushAll ops s).withClock c := by
  unfold pushAll
  rw [enqueue_withClock]
  cases enqueue ops s with
  | some t => rfl
  | none => exact s.raise_withClock c _

theorem runCycle_withClock (popped : List MicroOp) (acc : Access) {eff : Byte → State → State}
    {follow : State → List MicroOp} (heff : ∀ v s c, eff v (s.withClock c) = (eff v s).withClock c)
    (hfollow : ∀ s c, follow (s.withClock c) = follow s) :
    runCycle (s.withClock c) popped acc eff follow = (runCycle s popped acc eff follow).withClock c := by
  unfold runCycle
  have hacc := busAccess_withClock { s with queue := popped } c acc
  change busAccess { s.withClock c with queue := popped } acc = _ at hacc
  rw [hacc]
  cases busAccess { s with queue := popped } acc with
  | unmapped f => exact s.raise_withClock c f
  | done v t =>
    simp only [Answer.withClock, heff, hfollow, enqueue_withClock]
    rw [apply_ite (State.withClock · c)]
    refine if_congr Iff.rfl rfl ?_
    cases enqueue (follow (eff v t)) (eff v t) with
    | some u => rfl
    | none => exact s.raise_withClock c _

/-! ## Micro-ops (40 R140) -/

theorem MicroOp.access_withClock (op : MicroOp) : op.access (s.withClock c) = op.access s := by
  cases op with
  | writeZeroPage o | writeAbsolute o => cases o <;> rfl
  | _ => rfl

theorem ReadOp.apply_withClock (op : ReadOp) (v : Byte) :
    op.apply v (s.withClock c) = (op.apply v s).withClock c := by
  cases op <;> rfl

theorem MicroOp.effect_withClock (op : MicroOp) (v : Byte) :
    op.effect v (s.withClock c) = (op.effect v s).withClock c := by
  cases op with
  | implied o => cases o <;> rfl
  | readImmediate o => exact o.apply_withClock s.advance c v
  | readZeroPage o | readAbsolute o | readCorrected o => exact o.apply_withClock s c v
  | readSpeculative o =>
    simp only [MicroOp.effect, o.apply_withClock]
    exact (apply_ite (State.withClock · c) _ _ _).symm
  | fetchHiIndexed ix | indexZeroPage ix => cases ix <;> rfl
  | correctHi | testFlags | trapFlags =>
    simp only [MicroOp.effect]
    rw [apply_ite (State.withClock · c)]
    rfl
  | _ => rfl

theorem MicroOp.follow_withClock (op : MicroOp) : op.follow (s.withClock c) = op.follow s := by
  cases op <;> rfl

theorem cpuMicroOp_withClock : cpuMicroOp (s.withClock c) = (cpuMicroOp s).withClock c := by
  have hqueue : (s.withClock c).queue = s.queue := rfl
  unfold cpuMicroOp
  rw [hqueue]
  split
  · next op rest _ =>
    unfold runMicroOp
    rw [op.access_withClock]
    exact runCycle_withClock s c rest _ (fun v s c => op.effect_withClock s c v) fun s c => op.follow_withClock s c
  · exact s.raise_withClock c _

/-! ## The quiescent point (40 R132) -/

theorem performSnapshot_withClock : performSnapshot (s.withClock c) = (performSnapshot s).withClock c := by
  have hsnap : (s.withClock c).snapReq = s.snapReq := rfl
  unfold performSnapshot
  rw [hsnap]
  split <;> rfl

theorem State.setCpuReg_withClock (r : CpuReg) (v : Byte) :
    (s.withClock c).setCpuReg r v = (s.setCpuReg r v).withClock c := by
  cases r <;> rfl

theorem State.cpuReg_withClock : (s.withClock c).cpuReg = s.cpuReg := by
  funext r
  cases r <;> rfl

theorem HandlerCode.run_withClock {onFree : Nat → State → State}
    (hfree : ∀ k s c, onFree k (s.withClock c) = (onFree k s).withClock c) (f : HandlerCode) :
    f.run onFree (s.withClock c) = (f.run onFree s).withClock c := by
  induction f generalizing s with
  | skip => rfl
  | seq f g ihf ihg => simp only [HandlerCode.run, ihf, ihg]
  | ifElse t f g ihf ihg =>
    simp only [HandlerCode.run, State.cpuReg_withClock, CodeTest.holds_withClock, ihf, ihg,
      apply_ite (State.withClock · c)]
  | act a => exact Action.run_withClock s c (fun k s c => runFreeAction_withClock s c k) {} a
  | set r v =>
    simp only [HandlerCode.run, State.cpuReg_withClock, CodeExpr.value_withClock]
    exact State.unlessFaulted_withClock (s.setCpuReg_withClock c r _)
  | poke hi lo v => exact State.unlessFaulted_withClock (s.poked_withClock c s.cpuReg {} hi lo v)
  | snapshot r => exact State.unlessFaulted_withClock rfl
  | free k => exact hfree k s c

theorem runFreeHandler_withClock (k : Nat) : runFreeHandler k (s.withClock c) = (runFreeHandler k s).withClock c :=
  HandlerCode.run_withClock s c (fun _ _ _ => rfl) _

theorem runHandler_withClock (h : Handler) :
    runHandler h (s.withClock c) = ((runHandler h s).1.withClock c, (runHandler h s).2) := by
  have hrun : h.code.run runFreeHandler (s.withClock c) = (h.code.run runFreeHandler s).withClock c :=
    HandlerCode.run_withClock s c (fun k s c => runFreeHandler_withClock s c k) h.code
  simp only [runHandler, hrun, State.cpuReg_withClock, CodeTest.holds_withClock]
  rfl

theorem processIntercepts_withClock :
    processIntercepts (s.withClock c) = ((processIntercepts s).1.withClock c, (processIntercepts s).2) := by
  have hat : (s.withClock c).handlerAt (s.withClock c).pc = s.handlerAt s.pc := rfl
  unfold processIntercepts
  rw [hat]
  split
  · rfl
  · exact runHandler_withClock s c _

/-- What a CPU step leaves, with another clock. -/
def CpuStep.withClock (c : Clock) : CpuStep → CpuStep
  | .ran s => .ran (s.withClock c)
  | .fetched i s => .fetched i (s.withClock c)

theorem fetchDecode_withClock : fetchDecode (s.withClock c) = (fetchDecode s).withClock c := by
  have hread : busRead (s.withClock c) (s.withClock c).pc = (busRead s s.pc).withClock c :=
    busAccess_withClock s c (.read s.pc)
  unfold fetchDecode
  rw [hread]
  cases busRead s s.pc with
  | unmapped f => exact congrArg CpuStep.ran (s.raise_withClock c f)
  | done v t =>
    have hcfg : (t.withClock c).cfg = t.cfg := rfl
    simp only [Answer.withClock, hcfg]
    rw [apply_ite (CpuStep.withClock c)]
    refine if_congr Iff.rfl rfl ?_
    cases decodeOpcode t.cfg v with
    | none => exact congrArg CpuStep.ran ((opcodeRead v t).raise_withClock c _)
    | some i => rfl

theorem interceptedFetch_withClock : interceptedFetch (s.withClock c) = (interceptedFetch s).withClock c := by
  unfold interceptedFetch
  rw [processIntercepts_withClock, apply_ite (CpuStep.withClock c), ← fetchDecode_withClock]
  rfl

theorem quiescentStep_withClock : quiescentStep (s.withClock c) = (quiescentStep s).withClock c := by
  have hsampled : sampleInterrupts (performSnapshot { s.withClock c with bus := [] }) =
      (sampleInterrupts (performSnapshot { s with bus := [] })).withClock c :=
    congrArg sampleInterrupts (performSnapshot_withClock { s with bus := [] } c)
  unfold quiescentStep
  rw [hsampled]
  generalize sampleInterrupts (performSnapshot { s with bus := [] }) = t
  have hpending : pendingService (t.withClock c) = pendingService t := rfl
  simp only [hpending]
  split
  · next kind _ =>
    have htake : takeRequest kind (t.withClock c) = (takeRequest kind t).withClock c := by cases kind <;> rfl
    rw [htake]
    exact congrArg CpuStep.ran (runCycle_withClock (takeRequest kind t) c _ _ (fun _ _ _ => rfl) fun _ _ => rfl)
  · exact interceptedFetch_withClock t c

/-! ## The tick (40 R131) -/

theorem cpuTick_withClock : cpuTick (s.withClock c) = (cpuTick s).withClock c := by
  have hstep : cpuStep (s.withClock c) = (cpuStep s).withClock c := by
    unfold cpuStep
    rw [quiescentStep_withClock, cpuMicroOp_withClock, apply_ite (CpuStep.withClock c)]
    rfl
  unfold cpuTick
  rw [hstep]
  cases cpuStep s with
  | ran t => rfl
  | fetched i t => exact pushAll_withClock t c _

/-- An engine tick neither reads nor writes the clock (60 R378). -/
theorem engineTick_withClock : engineTick (s.withClock c) = (engineTick s).withClock c := by
  have htick : tickWith cpuTick (s.withClock c) = (tickWith cpuTick s).withClock c := by
    unfold tickWith
    rw [startTick_withClock, cpuTick_withClock, apply_ite (State.withClock · c), ← endTick_withClock,
      apply_ite (State.withClock · c)]
    rfl
  unfold engineTick
  rw [htick, apply_ite (State.withClock · c)]
  rfl

end

end Sys2Proof.Machine

/-!
SUPPORT. An iteration of the pacing loop whose listeners ignore time: what it does to the engine, which no clock
decides, and what it does to the clock (60 R371, R373, R378).
-/

namespace Sys2Proof.Machine

/-! ## Code that ignores wall time -/

theorem CodeExpr.value_call {σ : Type} (regs : σ → Byte) (call : Call) (rate elapsed : Quantity) (s : State)
    (e : CodeExpr σ) :
    e.value regs { call with rate := rate, elapsed := elapsed } s = e.value regs call s := by
  induction e with
  | mem hi lo ihi ilo => simp only [CodeExpr.value, ihi, ilo]
  | add e f ihe ihf | sub e f ihe ihf | and e f ihe ihf | or e f ihe ihf | xor e f ihe ihf =>
    simp only [CodeExpr.value, ihe, ihf]
  | _ => rfl

theorem CodeTest.holds_call {σ : Type} (regs : σ → Byte) (call : Call) (rate elapsed : Quantity) (s : State)
    {t : CodeTest σ} (h : t.ignoresTime) :
    t.holds regs { call with rate := rate, elapsed := elapsed } s = t.holds regs call s := by
  induction t with
  | eq e f | less e f => simp only [CodeTest.holds, CodeExpr.value_call]
  | elapsedAtLeast _ | rateAtLeast _ => cases h
  | paused => rfl
  | not t ih => simp only [CodeTest.holds, ih h]
  | and t u iht ihu =>
    obtain ⟨ht, hu⟩ := Bool.and_eq_true_iff.1 h
    simp only [CodeTest.holds, iht ht, ihu hu]

/-- An action that chooses by neither argument of `on_tick` does the same whatever they are (60 R378). -/
theorem Action.run_call (onFree : Nat → State → State) (call : Call) (rate elapsed : Quantity) {a : Action}
    (h : a.ignoresTime) (s : State) :
    a.run onFree { call with rate := rate, elapsed := elapsed } s = a.run onFree call s := by
  induction a generalizing s with
  | seq f g ihf ihg =>
    obtain ⟨hf, hg⟩ := Bool.and_eq_true_iff.1 h
    simp only [Action.run, ihf hf, ihg hg]
  | ifElse t f g ihf ihg =>
    simp only [Action.ignoresTime, Bool.and_eq_true] at h
    obtain ⟨⟨ht, hf⟩, hg⟩ := h
    simp only [Action.run, CodeTest.holds_call noRegs call rate elapsed s ht, ihf hf, ihg hg]
  | poke hi lo v => simp only [Action.run, State.poked, CodeExpr.value_call]
  | _ => rfl

/-! ## Listeners (60 R371) -/

theorem runListeners_call {ls : List Listener} (h : ∀ l ∈ ls, l.onTick.ignoresTime) (rate elapsed : Quantity)
    (s : State) :
    runListeners Listener.onTick { rate := rate, elapsed := elapsed } ls s = runListeners Listener.onTick {} ls s := by
  induction ls generalizing s with
  | nil => rfl
  | cons l ls ih =>
    have hl : runAction { rate := rate, elapsed := elapsed } l.onTick s = runAction {} l.onTick s := by
      unfold runAction
      rw [← Action.run_call runFreeAction {} rate elapsed (h l (by simp)) s]
    change runListeners _ _ ls (runAction _ l.onTick s) = runListeners _ _ ls (runAction _ l.onTick s)
    rw [hl, ih fun l' hl' => h l' (by simp [hl'])]

theorem runListeners_withClock (code : Listener → Action) (call : Call) (ls : List Listener) (s : State) (c : Clock) :
    runListeners code call ls (s.withClock c) = (runListeners code call ls s).withClock c := by
  induction ls generalizing s with
  | nil => rfl
  | cons l ls ih => exact (congrArg _ (runAction_withClock s c call (code l))).trans (ih _)

/-! ## An iteration (60 R373) -/

/-- What an unpaused iteration of the loop does to all but the clock, its listeners told nothing of time. -/
def State.iterated (s : State) : State :=
  runListeners Listener.onTick {} s.clock.after (engineTick (runListeners Listener.onTick {} s.clock.before s))

/-- With the same listeners, an iteration does the same whatever else the clock is (60 R378). -/
theorem State.iterated_withClock (s : State) {c : Clock} (hb : c.before = s.clock.before)
    (ha : c.after = s.clock.after) : (s.withClock c).iterated = s.iterated.withClock c := by
  unfold State.iterated
  rw [runListeners_withClock, engineTick_withClock, runListeners_withClock]
  change (runListeners _ _ c.after (engineTick (runListeners _ _ c.before s))).withClock c = _
  rw [hb, ha]

theorem State.iterated_cfg (s : State) : s.iterated.cfg = s.cfg := by
  unfold State.iterated
  rw [(runListeners_keeps _ _ _ _).cfg, engineTick_cfg, (runListeners_keeps _ _ _ _).cfg]

/-- The clock after an unpaused iteration (60 R373 to R375). -/
noncomputable def Clock.iterated (ρ : Nat → ℝ) (c : Clock) (w : Wall) : Clock := (c.enterCycle ρ w).2.leaveCycle ρ w

theorem Clock.enterCycle_settings (ρ : Nat → ℝ) (c : Clock) (w : Wall) :
    (c.enterCycle ρ w).2.paused = c.paused ∧ (c.enterCycle ρ w).2.before = c.before ∧
      (c.enterCycle ρ w).2.after = c.after := by
  rw [Clock.enterCycle_frame]
  exact ⟨rfl, rfl, rfl⟩

theorem Clock.iterated_settings (ρ : Nat → ℝ) (c : Clock) (w : Wall) :
    (c.iterated ρ w).paused = c.paused ∧ (c.iterated ρ w).before = c.before ∧ (c.iterated ρ w).after = c.after := by
  obtain ⟨-, -, -, hp, hb, ha⟩ := (c.enterCycle ρ w).2.leaveCycle_settings ρ w
  obtain ⟨hp', hb', ha'⟩ := c.enterCycle_settings ρ w
  exact ⟨hp.trans hp', hb.trans hb', ha.trans ha'⟩

/-- What the loop needs of a clock to run on, whatever the time (60 R378). -/
structure Clock.Runs (c : Clock) : Prop where
  unpaused : c.paused = false
  ignoresTime : c.listenersIgnoreTime

theorem Clock.Runs.iterated {c : Clock} (h : c.Runs) (ρ : Nat → ℝ) (w : Wall) : (c.iterated ρ w).Runs := by
  obtain ⟨hp, hb, ha⟩ := c.iterated_settings ρ w
  exact ⟨hp.trans h.unpaused, by rw [Clock.listenersIgnoreTime, hb, ha]; exact h.ignoresTime⟩

/-- An iteration splits into what it does to the engine and what it does to the clock (60 R378). -/
theorem pacedCycle_eq {s : State} (hw : s.cfg.wellFormed) (h : s.clock.Runs) (ρ : Nat → ℝ) (w : Wall) :
    pacedCycle ρ w s = .next (s.iterated.withClock (s.clock.iterated ρ w)) := by
  obtain ⟨-, hb, ha⟩ := s.clock.enterCycle_settings ρ w
  have hall := h.ignoresTime
  simp only [Clock.listenersIgnoreTime, List.all_append, Bool.and_eq_true, List.all_eq_true] at hall
  have hiter : runListeners Listener.onTick {} s.clock.after
        (engineTick
          (runListeners Listener.onTick {} s.clock.before { s with clock := (s.clock.enterCycle ρ w).2 })) =
      s.iterated.withClock (s.clock.enterCycle ρ w).2 := by
    rw [← s.iterated_withClock hb ha, State.iterated]
    simp only [State.withClock, hb, ha]
  unfold pacedCycle
  rw [if_neg (by simp [hw]), if_neg (by simp [h.unpaused])]
  dsimp only
  rw [hb, ha, runListeners_call hall.1, runListeners_call hall.2, hiter]
  rfl

/-! ## The loop -/

/-- The loop, never stopped, iterates the engine once per reading (60 R373, R378). -/
theorem runPaced_eq (ρ : Nat → ℝ) {walls walls' : List Wall} (hlen : walls.length = walls'.length) {s : State}
    {c : Clock} (hw : s.cfg.wellFormed) (hs : s.clock.Runs) (hc : c.Runs) (hb : c.before = s.clock.before)
    (ha : c.after = s.clock.after) :
    ∃ t c', runPaced ρ (fun _ => false) false walls s = .next t ∧
      runPaced ρ (fun _ => false) false walls' (s.withClock c) = .next (t.withClock c') := by
  induction walls generalizing walls' s c with
  | nil =>
    obtain rfl : walls' = [] := List.length_eq_zero_iff.1 hlen.symm
    exact ⟨s, c, rfl, rfl⟩
  | cons w ws ih =>
    cases walls' with
    | nil => cases hlen
    | cons w' ws' =>
      obtain ⟨-, hsb, hsa⟩ := s.clock.iterated_settings ρ w
      obtain ⟨-, hcb, hca⟩ := c.iterated_settings ρ w'
      have hrun := pacedCycle_eq hw hs ρ w
      have hrun' : pacedCycle ρ w' (s.withClock c) = .next (s.iterated.withClock (c.iterated ρ w')) := by
        rw [pacedCycle_eq (s := s.withClock c) hw hc, s.iterated_withClock hb ha]
        rfl
      have hnext := ih (s := s.iterated.withClock (s.clock.iterated ρ w)) (c := c.iterated ρ w') (Nat.succ.inj hlen)
        (by rw [← s.iterated_cfg] at hw; exact hw) (hs.iterated ρ w) (hc.iterated ρ w')
        (hcb.trans (hb.trans hsb.symm)) (hca.trans (ha.trans hsa.symm))
      simp only [runPaced, Bool.false_eq_true, if_false, hrun, hrun']
      exact hnext

end Sys2Proof.Machine

namespace Sys2Proof.Machine

/-- Settles O60: an iteration does to the engine what no clock and no reading decides, and keeps the listeners. -/
theorem pacingDoesNotChangeTheEngine : Obligations.PacingDoesNotChangeTheEngine := by
  unfold Obligations.PacingDoesNotChangeTheEngine
  intro ρ s c walls walls' hw hs hc hb ha hall hlen
  have hall' : c.listenersIgnoreTime := by rwa [Clock.listenersIgnoreTime, hb, ha]
  exact runPaced_eq ρ hlen hw ⟨hs, hall⟩ ⟨hc, hall'⟩ hb ha

end Sys2Proof.Machine

/-!
SUPPORT. The environment across a tick (60 R367, 70 R421), and a reset request away from a quiescent point, which
nothing clears there (60 R343).
-/

namespace Sys2Proof.Machine

/-- A tick writes neither the configuration nor the devices, the intercepts or the clock (70 R421). -/
theorem engineTick_environment (s : State) :
    (engineTick s).cfg = s.cfg ∧ (engineTick s).devices = s.devices ∧ (engineTick s).intercepts = s.intercepts ∧
      (engineTick s).clock = s.clock := by
  unfold engineTick
  split
  · cases hs : s.stopped with
    | true => simp [tickWith_of_stopped hs]
    | false =>
      obtain ⟨hcfg, hdev, hint, hclock, -, -⟩ := (tickWith_platform cpuTick_platform hs).2
      exact ⟨hcfg, hdev, hint, hclock⟩
  · exact ⟨rfl, rfl, rfl, rfl⟩

/-! ## A reset request that waits -/

/-- From `s` to `t` a reset request stays pending. -/
def KeepsReset (s t : State) : Prop := s.resetPending → t.resetPending

theorem State.raise_keepsReset (s : State) (f : Fault) : KeepsReset s (s.raise f) := by
  rw [State.raise_eq]
  exact id

theorem State.schedule_keepsReset (s : State) (h : Handle) (d : Int) : KeepsReset s (s.schedule h d) := by
  unfold State.schedule
  split
  · split
    · exact s.raise_keepsReset _
    · exact id
  · exact id

/-- Peripheral code clears no reset request. -/
theorem KeepsReset.actionClosed : ActionClosed KeepsReset where
  refl _ := id
  trans h k hs := k (h hs)
  schedule := State.schedule_keepsReset
  unschedule _ _ := id
  newTask _ _ := id
  requestNmi _ := id
  requestReset _ _ := rfl
  irqLines _ _ := id
  nmiLines _ _ := id
  setMem _ _ _ := id
  drawn _ := id

theorem KeepsReset.passClosed : PassClosed KeepsReset where
  toActionClosed := KeepsReset.actionClosed
  decrement _ := id

theorem KeepsReset.busClosed : BusClosed KeepsReset where
  toActionClosed := KeepsReset.actionClosed
  logBus _ _ := id
  busDraws _ _ := id

theorem startTick_keepsReset (s : State) : KeepsReset s (startTick s) := by
  unfold startTick
  split
  · exact KeepsReset.passClosed.schedulerPass s
  · exact id

theorem endTick_keepsReset (s : State) : KeepsReset s (endTick s) := by
  unfold endTick
  split
  · exact KeepsReset.passClosed.schedulerPass s
  · exact id

theorem cpuMicroOp_keepsReset (s : State) : KeepsReset s (cpuMicroOp s) := by
  unfold cpuMicroOp
  split
  · next op rest _ =>
    unfold runMicroOp
    obtain ⟨f, -, hr⟩ | ⟨v, t, ha, ⟨-, hr⟩ | ⟨-, hr, -⟩ | ⟨-, hr⟩⟩ :=
      runCycle_cases s rest (op.access s) (fun v t => op.effect v t) (fun t => op.follow t)
    · rw [hr]; exact s.raise_keepsReset f
    · rw [hr]; exact (KeepsReset.busClosed.busAccess ha :)
    · rw [hr]; exact s.raise_keepsReset _
    · rw [hr, op.effect_frame]; exact (KeepsReset.busClosed.busAccess ha :)
  · exact s.raise_keepsReset _

/-- Only a check at a quiescent point takes a reset request (40 R132, 60 R343). -/
theorem engineTick_keepsReset {s : State} (hq : s.quiescent = false) : KeepsReset s (engineTick s) := by
  have hk := startTick_keeps s
  have hq' : (startTick s).quiescent = false := by rw [State.quiescent, hk.queue, hk.servicing]; exact hq
  have hcpu : cpuTick (startTick s) = cpuMicroOp (startTick s) := by simp [cpuTick, cpuStep, hq']
  unfold engineTick tickWith
  split
  · split
    · exact id
    · refine fun hs => endTick_keepsReset _ ?_
      split
      · exact startTick_keepsReset s hs
      · rw [hcpu]
        exact cpuMicroOp_keepsReset _ (startTick_keepsReset s hs)
  · exact id

theorem engineTick_of_stopped {s : State} (hs : s.stopped = true) : engineTick s = s := by
  unfold engineTick
  rw [tickWith_of_stopped hs, ite_self]

/-! ## T1 of a service (60 R340) -/

/-- The tick that takes a service at rest: T1's own writes, and the other six cycles queued (60 R340). -/
theorem engineTick_of_service {s : State} {kind : ServiceKind} (h : s.atRest) (hsnap : s.snapReq = none)
    (hkind : pendingService s.polled = some kind) :
    engineTick s =
      { (takeRequest kind s.polled).serviced kind with queue := serviceCycles kind, cycles := s.cycles + 1 } := by
  obtain ⟨hp, hh, hf, hnil, hserv, hw⟩ := s.atRest_iff.1 h
  have hstep : cpuStep s = .ran (beginService kind (takeRequest kind s.polled)) := by
    unfold cpuStep quiescentStep
    rw [if_pos (by simp [State.quiescent, hnil, hserv]), sampled_of_snapReq_none hsnap]
    simp only [hkind]
  have hbegin : beginService kind (takeRequest kind s.polled) =
      { (takeRequest kind s.polled).serviced kind with queue := serviceCycles kind } := by
    cases kind <;> exact beginService_of_plain hp hf hnil
  rw [engineTick_of_plain hp hw (s.stopped_eq_false.2 ⟨hh, hf⟩), cpuTick, hstep, hbegin]
  cases kind <;> exact endTick_of_plain hp

/-- The check that takes an NMI clears the latch, and that of an IRQ finds it clear (40 R132, 60 R334). -/
theorem takeRequest_of_interrupt {s : State} {kind : ServiceKind} (hkind : pendingService s = some kind)
    (hne : kind ≠ .reset) : takeRequest kind s = { s with nmiLatch := false } := by
  cases kind with
  | nmi => rfl
  | reset => exact absurd rfl hne
  | irq =>
    have hlatch : s.nmiLatch = false := by
      by_contra hlatch
      cases hreset : s.resetPending <;> simp_all [pendingService]
    change s = _
    rw [← hlatch]

/-- T1 of a service leaves it running, the NMI latch cleared and the other six cycles queued. -/
theorem engineTick_begins {s : State} {kind : ServiceKind} (h : s.atRest) (hsnap : s.snapReq = none)
    (hkind : pendingService s.polled = some kind) :
    (engineTick s).servicing ∧ (engineTick s).svcKind = kind ∧ (engineTick s).nmiLatch = false ∧
      (engineTick s).queue.length = 6 := by
  obtain ⟨-, -, hlen⟩ := tidyQueue_serviceCycles kind
  rw [engineTick_of_service h hsnap hkind]
  refine ⟨rfl, rfl, ?_, hlen⟩
  by_cases hne : kind = .reset
  · exact if_pos hne
  · rw [takeRequest_of_interrupt hkind hne]
    exact if_neg hne

theorem pendingService_of_reset {s : State} (h : s.resetPending) : pendingService s.polled = some .reset := by
  simp [pendingService, State.polled, h]

theorem pendingService_of_nmi {s : State} (hreset : s.resetPending = false) (h : s.nmiRequested) :
    pendingService s.polled = some .nmi := by
  simp [pendingService, State.polled, hreset, h]

theorem pendingService_of_irq {s : State} (hreset : s.resetPending = false) (hnmi : s.nmiRequested = false)
    (h : s.irqRequested) : pendingService s.polled = some .irq := by
  have hirq : !getFlag s.polled.p .i && s.polled.irqNow := (Bool.and_comm _ _).trans h
  simp [pendingService, hirq]
  simp [State.polled, hreset, hnmi]

/-! ## The NMI and IRQ sequences (60 R341, R342) -/

/-- `s` after the NMI or IRQ sequence, whose vector is `v` (60 R341, R342). -/
def State.interrupted (s : State) (kind : ServiceKind) (v : Vector) : State :=
  { s.pushedEntry false with
    nmiLatch := false
    svcKind := kind
    sp := s.sp - 3#8
    p := putFlag s.p .i true
    pc := wordOf (s.memByte (vectorAddr v + 1#16)) (s.memByte (vectorAddr v))
    cycles := s.cycles + 7
    bus :=
      [s.readsAt s.pc, s.readsAt s.pc, .write (stackAddr s.sp) (hiByte s.pc),
        .write (stackAddr (s.sp - 1#8)) (loByte s.pc), .write (stackAddr (s.sp - 2#8)) (statusPushed s.p false),
        s.readsAt (vectorAddr v), s.readsAt (vectorAddr v + 1#16)] }

/-- A service other than reset from rest is the entry through its vector, with B = 0 (60 R341, R342). -/
theorem stepsTo_interrupt {s : State} {kind : ServiceKind} {v : Vector} (h : s.atRest) (hsnap : s.snapReq = none)
    (hkind : pendingService s.polled = some kind) (hne : kind ≠ .reset)
    (hcycles : serviceCycles kind = entryCycles .dummyPc false v true) :
    StepsTo s (s.polled.interrupted kind v) := by
  obtain ⟨-, hh, -, hnil, hserv, -⟩ := s.atRest_iff.1 h
  refine ⟨_, step_of_service h hsnap hkind, ?_⟩
  rw [takeRequest_of_interrupt hkind hne, hcycles,
    quietRun_eq_foldl (by exact hh) (by exact hnil) (by rfl) (by simp [entryCycles]), foldl_entryCycles,
    quietCycle_dummyPc]
  have hserv' : s.polled.servicing = false := hserv
  have hcount : s.polled.cycles = s.cycles := rfl
  have hbus : s.polled.bus = [] := rfl
  simp [State.settled, State.entered, State.interrupted, State.serviced, State.pushedEntry, State.pushedWord,
    State.readCycle, State.setMem, State.logBus, State.readsAt, State.memByte, hne, hserv', hcount, hbus]

theorem stepsTo_nmi {s : State} (h : s.atRest) (hsnap : s.snapReq = none) (hreset : s.resetPending = false)
    (hnmi : s.nmiRequested) : StepsTo s (s.polled.interrupted .nmi .nmi) :=
  stepsTo_interrupt h hsnap (pendingService_of_nmi hreset hnmi) (by decide) rfl

theorem stepsTo_irq {s : State} (h : s.atRest) (hsnap : s.snapReq = none) (hreset : s.resetPending = false)
    (hnmi : s.nmiRequested = false) (hirq : s.irqRequested) : StepsTo s (s.polled.interrupted .irq .irq) :=
  stepsTo_interrupt h hsnap (pendingService_of_irq hreset hnmi hirq) (by decide) rfl

end Sys2Proof.Machine

namespace Sys2Proof.Machine

/-- Settles O10: a step is a number of ticks, and no tick writes any of the four. -/
theorem stepKeepsTheEnvironment : Obligations.StepKeepsTheEnvironment := by
  unfold Obligations.StepKeepsTheEnvironment
  intro s t h
  refine step_keeps_of_tick (P := fun u =>
    u.cfg = s.cfg ∧ u.devices = s.devices ∧ u.intercepts = s.intercepts ∧ u.clock = s.clock) (fun u _ hu => ?_)
    ⟨rfl, rfl, rfl, rfl⟩ h
  obtain ⟨hcfg, hdev, hint, hclock⟩ := engineTick_environment u
  rwa [hcfg, hdev, hint, hclock]

/-- Settles O13: T1 queues the other six cycles, which run whole; only a check at a quiescent point takes the request,
and a stopped engine has no tick. -/
theorem resetSequence : Obligations.ResetSequence := by
  unfold Obligations.ResetSequence
  refine fun s => ⟨stepsTo_reset, fun h hsnap hreset => ?_, fun _ hq hs => engineTick_keepsReset hq hs,
    engineTick_of_stopped⟩
  have hkind := pendingService_of_reset hreset
  obtain ⟨hserv, hsvc, hlatch, hlen⟩ := engineTick_begins h hsnap hkind
  refine ⟨hserv, hsvc, ?_, hlatch, hlen⟩
  rw [engineTick_of_service h hsnap hkind]
  rfl

/-- Settles O15: each is the entry that BRK shares, with B = 0 and the end of its service, from the state in which the
check took its request. -/
theorem interruptSequences : Obligations.InterruptSequences := by
  unfold Obligations.InterruptSequences
  intro s h hsnap hreset status slot entered begins
  have hslot : slot 0#8 = stackAddr s.sp := by rw [← BitVec.sub_zero s.sp]
  dsimp only [entered]
  rw [hslot]
  exact ⟨fun hnmi => ⟨engineTick_begins h hsnap (pendingService_of_nmi hreset hnmi),
      stepsTo_nmi h hsnap hreset hnmi⟩,
    fun hnmi hirq => ⟨engineTick_begins h hsnap (pendingService_of_irq hreset hnmi hirq),
      stepsTo_irq h hsnap hreset hnmi hirq⟩⟩

end Sys2Proof.Machine

/-!
SUPPORT. The ticks that fault: an opcode that is not registered (60 R321) and an access at an unmapped address, in
whatever cycle (60 R320, R323); and that an instruction on a bus of memory alone meets no other fault.
-/

namespace Sys2Proof.Machine

/-! ## An unregistered opcode -/

/-- The fetch of an unregistered opcode in a plain environment (60 R321). -/
theorem fetchDecode_of_unregistered {s : State} (hp : s.plain) (hf : s.fault = none)
    (hnone : decodeOpcode s.cfg (s.memByte s.pc) = none) :
    fetchDecode s =
      .ran ((opcodeRead (s.memByte s.pc) (s.logBus (s.readsAt s.pc))).raise
        (.decodeError (s.memByte s.pc) s.pc)) := by
  unfold fetchDecode
  rw [busRead_of_plain hp]
  simp [hf, hnone, State.readsAt]

/-- A CPU step that faults ends its step (40 R137, 60 R320). -/
theorem drainAll_endTick_of_fault {s : State} (h : s.fault.isSome) : drainAll (endTick s) = endTick s :=
  drain_of_stopped _ (endTick_stopped_of_fault h)

/-! ## A tick with no live task -/

theorem startTick_of_dead {s : State} (h : ∀ t ∈ s.sched.tasks, t.live = false) : startTick s = s := by
  unfold startTick
  rw [schedulerPass_of_dead h, ite_self]

theorem endTick_of_dead {s : State} (h : ∀ t ∈ s.sched.tasks, t.live = false) :
    endTick s = { s with cycles := s.cycles + 1 } := by
  unfold endTick
  rw [schedulerPass_of_dead h, ite_self]

/-- A tick of a running engine with no live task whose CPU step only records a fault. -/
theorem engineTick_of_dead {s t : State} {f : Fault} (hw : s.cfg.wellFormed) (hs : s.stopped = false)
    (hdead : ∀ u ∈ s.sched.tasks, u.live = false) (hcpu : cpuStep s = .ran (t.raise f))
    (ht : t.fault = none) (hsched : t.sched = s.sched) :
    engineTick s = { t with fault := some f, cycles := t.cycles + 1 } := by
  obtain ⟨-, hf⟩ := s.stopped_eq_false.1 hs
  rw [engineTick_of_wellFormed hw, tickWith, if_neg (by simp [hs]), startTick_of_dead hdead, if_neg (by simp [hf]),
    cpuTick, hcpu, State.raise_of_none f ht]
  exact endTick_of_dead (by rw [← hsched] at hdead; exact hdead)

/-! ## An access at an unmapped address -/

theorem runCycle_of_unmapped {s : State} {popped : List MicroOp} {acc : Access} {f : Fault}
    (h : busAccess { s with queue := popped } acc = .unmapped f) (eff : Byte → State → State)
    (follow : State → List MicroOp) : runCycle s popped acc eff follow = s.raise f := by
  unfold runCycle
  rw [h]

theorem busRead_of_unmapped {s : State} {addr : Word} (h : s.mapped addr = false) :
    busRead s addr = .unmapped (.busUnmapped addr .read) := by
  simp [busRead, h]

theorem busWrite_of_unmapped {s : State} {addr : Word} (h : s.mapped addr = false) (v : Byte) :
    busWrite s addr v = .unmapped (.busUnmapped addr .write) := by
  simp [busWrite, h]

/-- A queued cycle whose access is refused only records the fault (60 R320, R323). -/
theorem engineTick_of_unmapped {s : State} {op : MicroOp} {rest : List MicroOp} {f : Fault} (hw : s.cfg.wellFormed)
    (hs : s.stopped = false) (hdead : ∀ u ∈ s.sched.tasks, u.live = false) (hq : s.queue = op :: rest)
    (h : busAccess { s with queue := rest } (op.access s) = .unmapped f) :
    engineTick s = { s with fault := some f, cycles := s.cycles + 1 } := by
  have hcpu : cpuStep s = .ran (s.raise f) := by
    rw [cpuStep, if_neg (by simp [State.quiescent, hq]), cpuMicroOp, hq]
    exact congrArg CpuStep.ran (runCycle_of_unmapped h _ _)
  exact engineTick_of_dead hw hs hdead hcpu (s.stopped_eq_false.1 hs).2 rfl

/-- A fetch at an unmapped PC, with nothing before it, records the fault behind the sampling of the lines (60 R323). -/
theorem engineTick_of_unmapped_fetch {s : State} (hw : s.cfg.wellFormed) (hs : s.stopped = false)
    (hdead : ∀ u ∈ s.sched.tasks, u.live = false) (hq : s.quiescent) (hpend : s.nothingPending)
    (hm : s.mapped s.pc = false) :
    engineTick s = { s.polled with fault := some (.busUnmapped s.pc .read), cycles := s.cycles + 1 } := by
  obtain ⟨-, hf⟩ := s.stopped_eq_false.1 hs
  obtain ⟨hsnap, hreset, hnmi, hirq, hat⟩ := s.nothingPending_iff.1 hpend
  have hcpu : cpuStep s = .ran (s.polled.raise (.busUnmapped s.pc .read)) := by
    rw [cpuStep, if_pos hq, quiescentStep_of_no_service hsnap hreset hnmi hirq,
      interceptedFetch_of_no_handler (s := s.polled) hat hf, fetchDecode,
      busRead_of_unmapped (s := s.polled) (addr := s.polled.pc) hm]
    rfl
  exact engineTick_of_dead hw hs hdead hcpu hf rfl

/-! ## The faults that an instruction meets -/

/-- On a bus without devices an access that is answered changes memory and the record of bus cycles only. -/
theorem busAccess_of_no_devices {s t : State} {acc : Access} {v : Byte} (hd : s.devices = [])
    (h : busAccess s acc = .done v t) : t = { s with mem := t.mem, bus := t.bus } := by
  have hnone (addr : Word) : s.deviceAt addr = none := by simp [State.deviceAt, hd]
  cases acc with
  | read addr =>
    simp only [busAccess, busRead, hnone] at h
    split at h
    · obtain ⟨-, rfl⟩ := Answer.done.inj h
      rfl
    · cases h
  | write addr w =>
    simp only [busAccess, busWrite, hnone] at h
    split at h
    · obtain ⟨-, rfl⟩ := Answer.done.inj h
      rfl
    · cases h

/-- A cycle on a bus without devices, its access answered, leaves the environment alone and the queue popped. -/
theorem effect_of_no_devices {op : MicroOp} {rest : List MicroOp} {s t : State} {acc : Access} {v : Byte}
    (hd : s.devices = []) (h : busAccess { s with queue := rest } acc = .done v t) :
    (op.effect v t).cfg = s.cfg ∧ (op.effect v t).devices = s.devices ∧ (op.effect v t).sched = s.sched ∧
      (op.effect v t).queue = rest ∧ (op.effect v t).fault = s.fault ∧ t.fault = s.fault := by
  rw [op.effect_frame, busAccess_of_no_devices (s := { s with queue := rest }) hd h]
  exact ⟨rfl, rfl, rfl, rfl, rfl, rfl⟩

/-- An instruction on its way, under a configuration, on a bus of memory alone with no live task: its queue tidy, and no
fault recorded but BusUnmapped, at an address that is not mapped. -/
structure State.BusFaultsOnly (cfg : Config) (s : State) : Prop where
  cfg : s.cfg = cfg
  devices : s.devices = []
  dead : ∀ u ∈ s.sched.tasks, u.live = false
  tidy : tidyQueue s.queue
  fault : ∀ f, s.fault = some f → ∃ addr kind, f = .busUnmapped addr kind ∧ s.mapped addr = false

section

variable {cfg : Config} (hroom : 16 ≤ cfg.q)
include hroom

theorem runMicroOp_busFaultsOnly {op : MicroOp} {rest : List MicroOp} {s : State} (h : s.BusFaultsOnly cfg)
    (hf : s.fault = none) (hq : s.queue = op :: rest) : (runMicroOp op rest s).BusFaultsOnly cfg := by
  obtain ⟨rfl, hdev, hdead, htidy, -⟩ := h
  unfold runMicroOp
  obtain ⟨f, ha, hr⟩ | ⟨v, t, ha, ht⟩ :=
    runCycle_cases s rest (op.access s) (fun v t => op.effect v t) (fun t => op.follow t)
  · rw [hr, State.raise_of_none f hf]
    refine ⟨rfl, hdev, hdead, htidy, fun g hg => ?_⟩
    obtain rfl := Option.some.inj hg
    obtain ⟨addr, -, hm, rfl⟩ | ⟨addr, w, -, hm, rfl⟩ := busAccess_unmapped ha
    · exact ⟨addr, .read, rfl, hm⟩
    · exact ⟨addr, .write, rfl, hm⟩
  · obtain ⟨hcfg, hdev', hsched, hqueue, hfault, htf⟩ := effect_of_no_devices (op := op) hdev ha
    have hlen := op.follow_length (op.effect v t)
    have hshort : rest.length < 6 := by
      simp only [hq, tidyQueue, Bool.and_eq_true, decide_eq_true_eq, List.length_cons] at htidy
      omega
    obtain ⟨hsome, -⟩ | ⟨-, -, hover⟩ | ⟨-, hr⟩ := ht
    · simp [htf, hf] at hsome
    · rw [enqueue_of_room (by rw [hqueue, hcfg]; omega)] at hover
      cases hover
    · rw [hr, hqueue]
      rw [hq] at htidy
      exact ⟨hcfg, hdev'.trans hdev, by rwa [hsched], (tidyQueue_follow htidy _).1,
        fun g hg => by cases (hfault.trans hf).symm.trans hg⟩

theorem microTick_busFaultsOnly {s : State} (h : s.BusFaultsOnly cfg) (hq : s.queue ≠ []) :
    (microTick s).BusFaultsOnly cfg := by
  obtain ⟨op, rest, hop⟩ := List.exists_cons_of_ne_nil hq
  unfold microTick
  cases hs : s.stopped with
  | true => rwa [tickWith_of_stopped hs]
  | false =>
    obtain ⟨-, hf⟩ := s.stopped_eq_false.1 hs
    have hrun := runMicroOp_busFaultsOnly hroom h hf hop
    have hcpu : cpuMicroOp s = runMicroOp op rest s := by simp only [cpuMicroOp, hop]
    rw [tickWith, if_neg (by simp [hs]), startTick_of_dead h.dead, if_neg (by simp [hf]), hcpu,
      endTick_of_dead hrun.dead]
    exact ⟨hrun.cfg, hrun.devices, hrun.dead, hrun.tidy, hrun.fault⟩

theorem drain_busFaultsOnly (n : Nat) {s : State} (h : s.BusFaultsOnly cfg) : (drain n s).BusFaultsOnly cfg := by
  induction n generalizing s with
  | zero => exact h
  | succ n ih =>
    rw [drain]
    split
    · exact h
    · next hgo => exact ih (microTick_busFaultsOnly hroom h fun hnil => hgo (by simp [hnil]))

end

end Sys2Proof.Machine

namespace Sys2Proof.Machine

/-- Settles O18: the fetch reads the byte and advances PC before the decode fails, and the fault ends the step. -/
theorem unregisteredOpcodeFaults : Obligations.UnregisteredOpcodeFaults := by
  unfold Obligations.UnregisteredOpcodeFaults
  intro s h hpend hnone
  obtain ⟨hp, -, hf, -, -, -⟩ := s.atRest_iff.1 h
  obtain ⟨hsnap, hreset, hnmi, hirq, hat⟩ := s.nothingPending_iff.1 hpend
  have hfetch : (quiescentStep s).pushed =
      { s.fetched with fault := some (.decodeError (s.memByte s.pc) s.pc) } := by
    rw [quiescentStep_of_no_service hsnap hreset hnmi hirq,
      interceptedFetch_of_no_handler (s := s.polled) hat hf, fetchDecode_of_unregistered (s := s.polled) hp hf hnone,
      opcodeRead_logBus rfl]
    exact State.raise_of_none _ hf
  refine ⟨_, step_of_atRest h, ?_⟩
  rw [hfetch, drainAll_endTick_of_fault rfl, endTick_of_plain (by exact hp)]
  rfl

/-- Settles O19: the access is refused before the cycle has written anything, so that its tick records the fault and
counts. -/
theorem unmappedAccessFaults : Obligations.UnmappedAccessFaults := by
  unfold Obligations.UnmappedAccessFaults
  intro s addr hw hs hdead hm
  refine ⟨fun op rest hq => ⟨fun hacc => ?_, fun v hacc => ?_⟩, fun hquiet hpend hpc => ?_⟩
  · refine engineTick_of_unmapped hw hs hdead hq ?_
    rw [hacc]
    exact busRead_of_unmapped (s := { s with queue := rest }) hm
  · refine engineTick_of_unmapped hw hs hdead hq ?_
    rw [hacc]
    exact busWrite_of_unmapped (s := { s with queue := rest }) hm v
  · subst hpc
    exact engineTick_of_unmapped_fetch hw hs hdead hquiet hpend hm

/-- Settles O20: a cycle on a bus of memory alone can only be refused its access, since its queue has room and is not
empty. -/
theorem instructionsRaiseBusFaultsOnly : Obligations.InstructionsRaiseBusFaultsOnly := by
  unfold Obligations.InstructionsRaiseBusFaultsOnly
  intro i s t f hs hnil hroom hdev hdead h hf
  obtain ⟨-, hnone⟩ := s.stopped_eq_false.1 hs
  rw [exec_eq_runInstr, runInstr, pushAll_of_room hnil ((cyclesOf_length i).trans (by omega)),
    endTick_of_dead (by exact hdead)] at h
  obtain rfl := Host.Outcome.next.inj h
  have hstart : State.BusFaultsOnly s.cfg { s with queue := cyclesOf i, cycles := s.cycles + 1 } :=
    ⟨rfl, hdev, hdead, (tidyQueue_cyclesOf i).1, fun g hg => by cases hnone.symm.trans hg⟩
  have hend := drain_busFaultsOnly hroom (3 * (cyclesOf i).length) hstart
  obtain ⟨addr, kind, rfl, hm⟩ := hend.fault f hf
  refine ⟨addr, kind, rfl, ?_⟩
  rwa [State.mapped, hend.cfg] at hm

end Sys2Proof.Machine

/-!
SUPPORT. What RTI pulls from a stack page that holds PC and the status as a vectored entry pushed them (60 R345).
-/

namespace Sys2Proof.Machine

/-- The three bytes of an entry are in three slots, also where S wraps between them (20 R80, 60 R341). -/
theorem State.memByte_pushedEntry_slots (s : State) (b : Bool) :
    (s.pushedEntry b).memByte (stackAddr s.sp) = hiByte s.pc ∧
      (s.pushedEntry b).memByte (stackAddr (s.sp - 1#8)) = loByte s.pc ∧
      (s.pushedEntry b).memByte (stackAddr (s.sp - 2#8)) = statusPushed s.p b := by
  obtain ⟨hhi, hlo⟩ := s.memByte_pushedWord s.pc
  have h0 : stackAddr s.sp ≠ stackAddr (s.sp - 2#8) := by
    rw [ne_eq, stackAddr_inj]
    bv_omega
  have h1 : stackAddr (s.sp - 1#8) ≠ stackAddr (s.sp - 2#8) := by
    rw [ne_eq, stackAddr_inj]
    bv_omega
  simp [State.pushedEntry, State.memByte_setMem, h0, h1, hhi, hlo]

/-- RTI from a ready state with the stack page and S as an entry from `s` left them returns to the PC of `s`, with P as
it was pushed (60 R345). -/
theorem exec_rti_of_pushedEntry {s u : State} {b : Bool} (hu : u.ready) (hsp : u.sp = s.sp - 3#8)
    (hstack : ∀ a : Byte, u.memByte (stackAddr a) = (s.pushedEntry b).memByte (stackAddr a)) :
    ∃ v, exec .rti u = .next v ∧ v.pc = s.pc ∧ v.sp = s.sp ∧ v.p = statusPushed s.p b := by
  have h3 : u.sp + 3#8 = s.sp := by rw [hsp, BitVec.sub_add_cancel]
  have h2 : u.sp + 2#8 = s.sp - 1#8 := by rw [← h3]; bv_omega
  have h1 : u.sp + 1#8 = s.sp - 2#8 := by rw [← h3]; bv_omega
  obtain ⟨hhi, hlo, hstatus⟩ := s.memByte_pushedEntry_slots b
  have hrti := foldl_cyclesRti_settled u
  simp only [h3, h2, h1, hstack, hhi, hlo, hstatus, wordOf_hiByte_loByte] at hrti
  exact ⟨_, exec_straight hu rfl, (congrArg State.pc hrti :), (congrArg State.sp hrti :), (congrArg State.p hrti :)⟩

end Sys2Proof.Machine

namespace Sys2Proof.Machine

/-- Settles O47: each entry leaves PC and its status in the three slots that RTI pulls from, BRK with PC behind its
padding byte. -/
theorem rtiReturnsFromEveryEntry : Obligations.RtiReturnsFromEveryEntry := by
  unfold Obligations.RtiReturnsFromEveryEntry
  intro s t u hu hsp hstack
  refine ⟨fun hs hbrk => ?_, fun hs hsnap hreset hasked hstep => ?_⟩
  · obtain rfl := Host.Outcome.next.inj ((exec_straight hs rfl).symm.trans hbrk)
    have hleft := foldl_cyclesBrk s
    exact exec_rti_of_pushedEntry (s := s.counted.afterReads (s.pc + 1#16) s.tmp [s.readsAt s.pc]) (b := true) hu
      (hsp.trans (congrArg State.sp hleft :))
      fun a => (hstack a).trans (congrArg (State.memByte · (stackAddr a)) hleft :)
  · obtain ⟨kind, v, t', ht', hleft⟩ : ∃ kind v, StepsTo s (s.polled.interrupted kind v) := by
      cases hnmi : s.nmiRequested with
      | true => exact ⟨.nmi, .nmi, stepsTo_nmi hs hsnap hreset hnmi⟩
      | false => exact ⟨.irq, .irq, stepsTo_irq hs hsnap hreset hnmi (hasked.resolve_left (by simp [hnmi]))⟩
    obtain rfl := Host.Outcome.next.inj (ht'.symm.trans hstep)
    exact exec_rti_of_pushedEntry (s := s.polled) (b := false) hu (hsp.trans (congrArg State.sp hleft :))
      fun a => (hstack a).trans (congrArg (State.memByte · (stackAddr a)) hleft :)

end Sys2Proof.Machine

/-!
SUPPORT. The factor of NUDGE on either side of the target rate (60 R374), the outcomes of `set_rate` (60 R372), and an
iteration of the loop with no listener but the engine, or while paused (60 R373, R376).
-/

namespace Sys2Proof.Machine

/-! ## The drift correction -/

theorem nudgeFactor_lt_one {delay achieved rate : ℝ} (h : achieved < rate) : nudgeFactor delay achieved rate < 1 := by
  unfold nudgeFactor
  dsimp only
  rw [if_pos h, div_lt_one (by positivity)]
  exact lt_add_of_pos_right _ (by positivity)

theorem one_lt_nudgeFactor {delay achieved rate : ℝ} (h : rate < achieved) : 1 < nudgeFactor delay achieved rate := by
  unfold nudgeFactor
  dsimp only
  rw [if_neg h.not_gt, if_pos h, one_lt_div (by positivity)]
  exact lt_add_of_pos_right _ (by positivity)

/-- The clamp between bounds that do not cross, case by case (60 R374). -/
theorem min_max_eq_ite {lo hi x : ℝ} (h : lo ≤ hi) :
    min hi (max lo x) = if x < lo then lo else if hi < x then hi else x := by
  split_ifs with hlo hhi
  · rw [max_eq_left hlo.le, min_eq_right h]
  · rw [max_eq_right (not_lt.1 hlo), min_eq_left hhi.le]
  · rw [max_eq_right (not_lt.1 hlo), min_eq_right (not_lt.1 hhi)]

/-! ## `set_rate` -/

/-- The times of a clock after a resync, by its two readings; the second alone adds paused time (60 R375, R376). -/
theorem Clock.value_resync (ρ : Nat → ℝ) (c : Clock) (r : ResyncReadings) :
    let mark := max (c.lastNow.value ρ) (r.mark.value ρ)
    let later := max mark (r.deadline.value ρ)
    (c.resync ρ r).tResync.value ρ = mark ∧ (c.resync ρ r).lastNow.value ρ = later ∧
      (c.resync ρ r).pausedNs.value ρ = (if c.paused then later - mark else 0) ∧
      (c.resync ρ r).deadline.value ρ = later + c.nominal.value ρ := by
  intro mark later
  rw [Clock.resync_eq]
  refine ⟨by simp [mark], by simp [later, mark], ?_, by simp [later, mark]⟩
  dsimp only
  split <;> simp [later, mark]

/-- The clock as `set_rate` hands it to the resync (60 R372). -/
def Clock.withRate (c : Clock) (rate : Quantity) (throttled : Bool) : Clock :=
  { c with
    rate := rate, throttled := throttled, nominal := Quantity.over (.rat 1000000000) rate
    delay := Quantity.over (.rat 1000000000) rate }

section

variable (ρ : Nat → ℝ) {rate : Quantity} (throttled : Bool) (r : ResyncReadings) (s : State)

theorem setRate_of_nonpos (h : rate.value ρ ≤ 0) : setRate ρ rate throttled r s = .refused .badRate := by
  unfold setRate
  rw [if_neg (by simpa using h)]

theorem setRate_of_pos (h : 0 < rate.value ρ) :
    setRate ρ rate throttled r s =
      .next { s with clock := (s.clock.withRate rate throttled).resync ρ r } := by
  unfold setRate
  rw [if_pos (by simpa using h)]
  rfl

end

/-! ## An iteration of the loop -/

theorem pacedCycle_of_alone {ρ : Nat → ℝ} {w : Wall} {s : State} (hw : s.cfg.wellFormed)
    (hp : s.clock.paused = false) (hb : s.clock.before = []) (ha : s.clock.after = []) :
    pacedCycle ρ w s = .next { engineTick s with clock := s.clock.iterated ρ w } := by
  have hall : s.clock.listenersIgnoreTime := by simp [Clock.listenersIgnoreTime, hb, ha]
  have hiter : s.iterated = engineTick s := by rw [State.iterated, hb, ha]; rfl
  rw [pacedCycle_eq hw ⟨hp, hall⟩, hiter]
  rfl

/-- After an iteration its cycle is counted, and since the last resync too unless one was due (60 R373, R375). -/
theorem Clock.iterated_counts (ρ : Nat → ℝ) (c : Clock) (w : Wall) :
    (c.iterated ρ w).total = c.total + 1 ∧
      ((c.iterated ρ w).since = c.since + 1 ∨ (c.iterated ρ w).since = 0) := by
  have htotal := (c.enterCycle ρ w).2.leaveCycle_total ρ w
  have hsince := (c.enterCycle ρ w).2.leaveCycle_since ρ w
  rw [Clock.iterated]
  rw [show (c.enterCycle ρ w).2.total = c.total by rw [Clock.enterCycle_frame]] at htotal
  rw [show (c.enterCycle ρ w).2.since = c.since by rw [Clock.enterCycle_frame]] at hsince
  exact ⟨htotal, hsince⟩

theorem pacedCycle_of_paused {ρ : Nat → ℝ} {w : Wall} {s : State} (hw : s.cfg.wellFormed)
    (hp : s.clock.paused = true) : pacedCycle ρ w s = .next { s with clock := s.clock.now ρ w.waited } := by
  simp [pacedCycle, hw, hp]

end Sys2Proof.Machine

namespace Sys2Proof.Machine

/-- Settles O58: the delay after the correction is the smaller of the nominal one and the larger of 10 ns and the
product. -/
theorem driftCorrection : Obligations.DriftCorrection := by
  unfold Obligations.DriftCorrection
  intro ρ c achieved rate nominal factor product after
  have hafter : after = min nominal (max 10 product) := c.value_nudge ρ
  refine ⟨c.nudge_frame ρ, fun h => hafter.trans (min_max_eq_ite h), fun h => ?_, nudgeFactor_pos _ _ _,
    nudgeFactor_lt_one, one_lt_nudgeFactor, fun h => ?_⟩
  · rw [hafter, min_eq_left (h.le.trans (le_max_left _ _))]
  · rw [hafter]
    exact ⟨le_min h (le_max_left _ _), min_le_left _ _⟩

/-- Settles O59: an unpaused iteration is what it does to the engine and what it does to the clock; a paused one is a
reading of the clock. -/
theorem pacedCycleIsOneTick : Obligations.PacedCycleIsOneTick := by
  unfold Obligations.PacedCycleIsOneTick
  intro ρ w s hw
  refine ⟨fun hp hb ha => ?_, fun hp => ?_⟩
  · exact ⟨_, pacedCycle_of_alone hw hp hb ha, s.clock.iterated_counts ρ w⟩
  · intro before
    refine ⟨_, pacedCycle_of_paused hw hp, rfl, by simp [before], ?_⟩
    simp [Clock.now_pausedNs, hp, before]

end Sys2Proof.Machine

namespace Sys2Proof

section

open Machine

/-- Settles O57: a positive rate resynchronises the clock with its new settings. (Named outside `Machine`, where
`setRate` is the model's operation.) -/
theorem setRate : Obligations.SetRate := by
  unfold Obligations.SetRate
  intro ρ rate throttled r s
  refine ⟨setRate_of_nonpos ρ throttled r s, fun h => ?_⟩
  intro c mark later active
  have hnominal : (Quantity.over (.rat 1000000000) rate).value ρ = 1000000000 / rate.value ρ := by simp
  obtain ⟨hmark, hlater, hpaused, hdeadline⟩ := (c.withRate rate throttled).value_resync ρ r
  refine ⟨_, _, setRate_of_pos ρ throttled r s h, rfl, hnominal, hnominal, hmark, hlater, hpaused,
    hdeadline.trans (congrArg (later + ·) hnominal), fun hactive => ?_⟩
  have hnow : ((c.withRate rate throttled).now ρ r.mark).activeNs.value ρ = active := Clock.now_activeNs ρ _ _
  rw [Clock.value_achieved ρ _ (by rwa [hnow]), hnow]
  rfl

end

end Sys2Proof

/-!
SUPPORT. The scheduler's calls on a task that is there (60 R362 to R364), the order of a pass, and the passes that count
down one task or two (60 R365, R366).
-/

namespace Sys2Proof.Machine

theorem modify_eq_set_of_getElem? {α : Type} {l : List α} {i : Nat} {a : α} (h : l[i]? = some a) (f : α → α) :
    l.modify i f = l.set i (f a) := by
  simp [List.modify_eq_set_getElem?, h]

/-! ## The calls -/

/-- `s` with the task `t` at `h` live, counting down from `n`, under the next sequence number (60 R362). -/
def State.armed (s : State) (h : Handle) (t : Task) (n : Nat) : State :=
  { s with
    sched :=
      { tasks := s.sched.tasks.set h.index { t with count := n, live := true, seq := s.sched.nextSeq }
        nextSeq := s.sched.nextSeq + 1 } }

/-- `s` with a sequence number used up. -/
def State.skippedSeq (s : State) : State :=
  { s with sched := { s.sched with nextSeq := s.sched.nextSeq + 1 } }

section

variable {s : State} {h : Handle} {t : Task} (ht : s.sched.tasks[h.index]? = some t)
include ht

theorem State.knows_of_task : s.knows h = true := by
  obtain ⟨hlt, -⟩ := List.getElem?_eq_some_iff.1 ht
  exact decide_eq_true hlt

theorem State.schedule_of_lt_one {d : Int} (hd : d < 1) : s.schedule h d = s.raise (.schedulerBadDelay h d) := by
  rw [State.schedule, if_pos (State.knows_of_task ht), if_pos hd]

theorem State.schedule_of_one_le {d : Int} (hd : 1 ≤ d) : s.schedule h d = s.armed h t d.toNat := by
  rw [State.schedule, if_pos (State.knows_of_task ht), if_neg (by omega), modify_eq_set_of_getElem? ht]
  rfl

theorem State.schedule_natCast {n : Nat} (hn : 1 ≤ n) : s.schedule h n = s.armed h t n :=
  State.schedule_of_one_le ht (by omega)

theorem State.unschedule_of_task :
    s.unschedule h =
      { s with sched := { s.sched with tasks := s.sched.tasks.set h.index { t with live := false } } } := by
  rw [State.unschedule, modify_eq_set_of_getElem? ht]

/-- A task that is made live, whatever it was before, is made so by its new count and number alone. -/
theorem State.reschedule_of_one_le {d : Int} (hd : 1 ≤ d) : s.reschedule h d = s.armed h t d.toNat := by
  have hlt := (List.getElem?_eq_some_iff.1 ht).1
  have ht' : (s.unschedule h).sched.tasks[h.index]? = some { t with live := false } := by
    rw [State.unschedule_of_task ht]
    exact List.getElem?_set_self hlt
  rw [State.reschedule, State.schedule_of_one_le ht' hd, State.unschedule_of_task ht, State.armed, List.set_set]
  rfl

theorem State.armed_task (n : Nat) :
    (s.armed h t n).sched.tasks[h.index]? =
      some { t with count := n, live := true, seq := s.sched.nextSeq } :=
  List.getElem?_set_self (List.getElem?_eq_some_iff.1 ht).1

end

/-! ## The order of a pass (60 R365) -/

section

variable {ts : List Task} {x y : Task} (hdead : ∀ t ∈ ts, t.live = false) (hx : x.live = true) (hy : y.live = true)
include hdead hx

theorem liveHandles_set {i : Nat} (hi : i < ts.length) (n : Nat) : liveHandles (ts.set i x) n = [(x.seq, n + i)] := by
  induction ts generalizing i n with
  | nil => cases hi
  | cons t ts ih =>
    have hts : ∀ u ∈ ts, u.live = false := fun u hu => hdead u (by simp [hu])
    cases i with
    | zero => simp [liveHandles, hx, liveHandles_of_dead hts]
    | succ i =>
      have ht : t.live = false := hdead t (by simp)
      simp [liveHandles, ht, ih hts (Nat.lt_of_succ_lt_succ hi), Nat.add_comm, Nat.add_left_comm]

include hy in
theorem liveHandles_set_set {i j : Nat} (hi : i < ts.length) (hj : j < ts.length) (hne : i ≠ j) (n : Nat) :
    liveHandles ((ts.set i x).set j y) n =
      if i < j then [(x.seq, n + i), (y.seq, n + j)] else [(y.seq, n + j), (x.seq, n + i)] := by
  induction ts generalizing i j n with
  | nil => cases hi
  | cons t ts ih =>
    have ht : t.live = false := hdead t (by simp)
    have hts : ∀ u ∈ ts, u.live = false := fun u hu => hdead u (by simp [hu])
    match i, j with
    | 0, 0 => exact absurd rfl hne
    | 0, j + 1 =>
      simp [liveHandles, hx, liveHandles_set hts hy (Nat.lt_of_succ_lt_succ hj), Nat.add_comm, Nat.add_left_comm]
    | i + 1, 0 =>
      simp [liveHandles, hy, liveHandles_set hts hx (Nat.lt_of_succ_lt_succ hi), Nat.add_comm, Nat.add_left_comm]
    | i + 1, j + 1 =>
      simp [liveHandles, ht, ih hts (Nat.lt_of_succ_lt_succ hi) (Nat.lt_of_succ_lt_succ hj) (by simpa using hne),
        Nat.add_comm, Nat.add_left_comm]

theorem passOrder_set {h : Handle} (hi : h.index < ts.length) : passOrder (ts.set h.index x) = [h] := by
  simp [passOrder, liveHandles_set hdead hx hi, insertBySeq]

include hy in
/-- Of two live tasks the one with the lower number comes first, whatever their handles (60 R365). -/
theorem passOrder_set_set {h k : Handle} (hi : h.index < ts.length) (hj : k.index < ts.length)
    (hne : h.index ≠ k.index) (hseq : x.seq < y.seq) :
    passOrder ((ts.set h.index x).set k.index y) = [h, k] := by
  rw [passOrder, liveHandles_set_set hdead hx hy hi hj hne]
  split <;> simp [insertBySeq, hseq.le, hseq.not_ge]

end

/-! ## One task of a pass -/

/-- A task that is there fires where nothing has faulted and it is live with count 0 (60 R365; log 9). -/
theorem fireTask_of_task {s : State} {h : Handle} {x : Task} (hx : s.sched.tasks[h.index]? = some x) :
    fireTask s h =
      if s.fault = none ∧ x.live = true ∧ x.count = 0 then runAction {} x.action (s.unschedule h) else s := by
  unfold fireTask
  rw [hx]
  cases hf : s.fault <;> simp [State.unlessFaulted, hf]

theorem runAction_poke_const {s : State} (hf : s.fault = none) (call : Call) (hi lo v : Byte) :
    runAction call (.poke (.const hi) (.const lo) (.const v)) s = (s.setMem (wordOf hi lo) v).drawn := by
  simp [runAction, Action.run, State.unlessFaulted, State.poked, CodeExpr.value, hf]

/-- From `s` to `t` no task goes, and none gets another action. -/
def KeepsActions (s t : State) : Prop :=
  ∀ (i : Nat) (x : Task), s.sched.tasks[i]? = some x → ∃ y, t.sched.tasks[i]? = some y ∧ y.action = x.action

theorem KeepsActions.of_sched {s t : State} (h : t.sched = s.sched) : KeepsActions s t :=
  fun i x hx => ⟨x, by rw [h]; exact hx, rfl⟩

theorem KeepsActions.of_modify {s t : State} {i : Nat} {f : Task → Task}
    (h : t.sched.tasks = s.sched.tasks.modify i f) (hf : ∀ x, (f x).action = x.action) : KeepsActions s t := by
  intro j x hx
  refine ⟨if i = j then f x else x, by simp [h, List.getElem?_modify, hx], ?_⟩
  split
  · exact hf x
  · rfl

theorem State.schedule_keepsActions (s : State) (h : Handle) (d : Int) : KeepsActions s (s.schedule h d) := by
  unfold State.schedule
  split
  · split
    · exact .of_sched (by rw [State.raise_eq])
    · exact .of_modify rfl fun _ => rfl
  · exact .of_sched rfl

/-- Peripheral code removes no task and gives none another action (60 R361 to R364). -/
theorem KeepsActions.closed : ActionClosed KeepsActions where
  refl _ := .of_sched rfl
  trans h k i x hx := by
    obtain ⟨y, hy, hyx⟩ := h i x hx
    obtain ⟨z, hz, hzy⟩ := k i y hy
    exact ⟨z, hz, hzy.trans hyx⟩
  schedule := State.schedule_keepsActions
  unschedule _ _ := .of_modify rfl fun _ => rfl
  newTask s a i x hx := ⟨x, List.getElem?_append_left (List.getElem?_eq_some_iff.1 hx).1 ▸ hx, rfl⟩
  requestNmi _ := .of_sched rfl
  requestReset _ := .of_sched rfl
  irqLines _ _ := .of_sched rfl
  nmiLines _ _ := .of_sched rfl
  setMem _ _ _ := .of_sched rfl
  drawn _ := .of_sched rfl

/-! ## Passes that count down (60 R366) -/

/-- States that each lead to the one of the next lower index, but for the last two. -/
theorem iterate_of_countdown {f : State → State} {P : Nat → State} (h : ∀ c, f (P (c + 2)) = P (c + 1)) {n k : Nat}
    (hk : k < n) : f^[k] (P n) = P (n - k) := by
  induction k with
  | zero => rfl
  | succ k ih =>
    obtain ⟨c, hc⟩ : ∃ c, n - k = c + 2 := ⟨n - k - 2, by omega⟩
    rw [Function.iterate_succ_apply', ih (by omega), hc, h]
    congr 1
    omega

theorem iterate_of_countdown_last {f : State → State} {P : Nat → State} (h : ∀ c, f (P (c + 2)) = P (c + 1)) {n : Nat}
    (hn : 1 ≤ n) : f^[n] (P n) = f (P 1) := by
  obtain ⟨k, rfl⟩ : ∃ k, n = k + 1 := ⟨n - 1, by omega⟩
  rw [Function.iterate_succ_apply', iterate_of_countdown h (Nat.lt_add_one k), Nat.add_sub_cancel_left]

theorem decrementLive_set {x : Task} (hx : x.live = true) (ts : List Task) (i : Nat) :
    decrementLive (ts.set i x) = (decrementLive ts).set i { x with count := x.count - 1 } := by
  unfold decrementLive
  rw [List.map_set, if_pos hx]

section

variable {s : State} {h k : Handle} {t u : Task} (hdead : ∀ x ∈ s.sched.tasks, x.live = false)
  (ht : s.sched.tasks[h.index]? = some t)
include hdead ht

/-- A pass with one live task decrements it, and then comes to it (60 R365). -/
theorem schedulerPass_armed (c : Nat) : schedulerPass (s.armed h t (c + 1)) = fireTask (s.armed h t c) h := by
  have horder : passOrder (s.armed h t (c + 1)).sched.tasks = [h] :=
    passOrder_set hdead rfl (List.getElem?_eq_some_iff.1 ht).1
  have hdec : decrementLive (s.armed h t (c + 1)).sched.tasks = (s.armed h t c).sched.tasks := by
    simp [State.armed, decrementLive_set, decrementLive_of_dead hdead]
  rw [schedulerPass, horder, hdec]
  rfl

theorem schedulerPass_armed_two (c : Nat) : schedulerPass (s.armed h t (c + 2)) = s.armed h t (c + 1) := by
  rw [schedulerPass_armed hdead ht, fireTask_of_task (s.armed_task ht _), if_neg (by simp)]

theorem unschedule_armed_dead (n : Nat) : ∀ x ∈ ((s.armed h t n).unschedule h).sched.tasks, x.live = false := by
  rw [State.unschedule_of_task (s.armed_task ht n)]
  intro x hx
  obtain hx | rfl := List.mem_or_eq_of_mem_set (by simpa [State.armed] using hx)
  · exact hdead x hx
  · rfl

omit hdead in
/-- A task scheduled anew is armed under the next number (60 R362). -/
theorem armed_schedule (n : Nat) {m : Nat} (hm : 1 ≤ m) :
    (s.armed h t n).schedule h m = s.skippedSeq.armed h t m := by
  rw [State.schedule_natCast (s.armed_task ht n) hm]
  simp [State.armed, State.skippedSeq]

/-- A pass with two live tasks of one count decrements both, and then comes to them in the order of their calls. -/
theorem schedulerPass_armed_armed (hne : h.index ≠ k.index) (hu : s.sched.tasks[k.index]? = some u) (c : Nat) :
    schedulerPass ((s.armed h t (c + 1)).armed k u (c + 1)) =
      fireTask (fireTask ((s.armed h t c).armed k u c) h) k := by
  have horder : passOrder ((s.armed h t (c + 1)).armed k u (c + 1)).sched.tasks = [h, k] :=
    passOrder_set_set hdead rfl rfl (List.getElem?_eq_some_iff.1 ht).1 (List.getElem?_eq_some_iff.1 hu).1 hne
      (Nat.lt_succ_self _)
  have hdec : decrementLive ((s.armed h t (c + 1)).armed k u (c + 1)).sched.tasks =
      ((s.armed h t c).armed k u c).sched.tasks := by
    simp [State.armed, decrementLive_set, decrementLive_of_dead hdead]
  rw [schedulerPass, horder, hdec]
  rfl

omit hdead in
theorem armed_armed_task (hne : h.index ≠ k.index) (c : Nat) :
    ((s.armed h t c).armed k u c).sched.tasks[h.index]? =
      some { t with count := c, live := true, seq := s.sched.nextSeq } := by
  rw [← s.armed_task ht]
  exact List.getElem?_set_ne hne.symm

omit hdead ht in
theorem armed_task_of_ne (hne : h.index ≠ k.index) (hu : s.sched.tasks[k.index]? = some u) (c : Nat) :
    (s.armed h t c).sched.tasks[k.index]? = some u :=
  (List.getElem?_set_ne hne).trans hu

theorem schedulerPass_armed_armed_two (hne : h.index ≠ k.index) (hu : s.sched.tasks[k.index]? = some u) (c : Nat) :
    schedulerPass ((s.armed h t (c + 2)).armed k u (c + 2)) = (s.armed h t (c + 1)).armed k u (c + 1) := by
  rw [schedulerPass_armed_armed hdead ht hne hu, fireTask_of_task (armed_armed_task ht hne _), if_neg (by simp),
    fireTask_of_task (State.armed_task (armed_task_of_ne hne hu _) _), if_neg (by simp)]

/-- A task scheduled, and another one `m` passes later with a delay shorter by `m`: the pass in which both are due comes
to the first and then to the second (60 R365). -/
theorem schedulerPass_iterate_ties (hne : h.index ≠ k.index) (hu : s.sched.tasks[k.index]? = some u) {n m : Nat}
    (hmn : m < n) :
    schedulerPass^[n - m] ((schedulerPass^[m] (s.schedule h n)).schedule k (n - m : Nat)) =
      fireTask (fireTask ((s.armed h t 0).armed k u 0) h) k := by
  rw [State.schedule_natCast ht (by omega),
    iterate_of_countdown (P := s.armed h t) (schedulerPass_armed_two hdead ht) hmn,
    State.schedule_natCast (armed_task_of_ne hne hu _) (by omega),
    iterate_of_countdown_last (P := fun c => (s.armed h t c).armed k u c)
      (schedulerPass_armed_armed_two hdead ht hne hu) (by omega),
    schedulerPass_armed_armed hdead ht hne hu]

end

end Sys2Proof.Machine

namespace Sys2Proof.Machine

/-- Settles O54: each call is one write of the task, and what `reschedule` cancels it writes anew. -/
theorem schedulerCalls : Obligations.SchedulerCalls := by
  unfold Obligations.SchedulerCalls
  intro s h d t hf ht
  have hlt := (List.getElem?_eq_some_iff.1 ht).1
  refine ⟨fun hd => ?_, fun hd => ?_, rfl, ?_⟩
  · rw [State.schedule_of_lt_one ht hd, State.raise_of_none _ hf]
  · rw [State.schedule_of_one_le ht hd]
    exact ⟨rfl, rfl, s.armed_task ht _, fun k hk => List.getElem?_set_ne hk.symm, State.reschedule_of_one_le ht hd⟩
  · rw [State.unschedule_of_task ht]
    exact ⟨rfl, rfl, List.getElem?_set_self hlt, fun k hk => List.getElem?_set_ne hk.symm⟩

/-- Settles O55: with one task live a pass decrements its count until it is 1, and then fires it; a count set anew is
counted down alike. -/
theorem tasksFireOnTheNthPass : Obligations.TasksFireOnTheNthPass := by
  unfold Obligations.TasksFireOnTheNthPass
  intro s h n m t hf ht hdead hn hm
  rw [State.schedule_natCast ht hn]
  intro q counted
  have hcounted (k : Nat) : counted k = s.armed h t (n - k) := by
    dsimp only [counted]
    rw [modify_eq_set_of_getElem? (s.armed_task ht n)]
    simp [q, State.armed]
  have hpass (k : Nat) (hk : k < n) : schedulerPass^[k] q = s.armed h t (n - k) :=
    iterate_of_countdown (P := s.armed h t) (schedulerPass_armed_two hdead ht) hk
  refine ⟨fun k hk => (hpass k hk).trans (hcounted k).symm, ?_, fun k => ?_, fun k hk j hj => ?_⟩
  · rw [iterate_of_countdown_last (P := s.armed h t) (schedulerPass_armed_two hdead ht) hn,
      schedulerPass_armed hdead ht, fireTask_of_task (s.armed_task ht 0), if_pos ⟨hf, rfl, rfl⟩, hcounted,
      Nat.sub_self]
  · exact Function.iterate_fixed (schedulerPass_of_dead (unschedule_armed_dead hdead ht n)) k
  · rw [hpass k hk, armed_schedule ht _ hm,
      iterate_of_countdown (schedulerPass_armed_two (s := s.skippedSeq) hdead ht) hj]
    exact State.armed_task (s := s.skippedSeq) ht _

/-- Settles O56: both count down together, and the last pass comes to them in the order of their numbers; no action
takes a task away or gives it another action. -/
theorem tiesFireInScheduleOrder : Obligations.TiesFireInScheduleOrder := by
  unfold Obligations.TiesFireInScheduleOrder
  intro s h k n m t u hf hhk ht hu hdead hmn last fired zero first
  have hne : h.index ≠ k.index := fun e => hhk (by cases h; cases k; exact congrArg Handle.mk e)
  have hzero : ((s.armed h t 0).armed k u 0).unschedule h = zero := by
    rw [State.unschedule_of_task (armed_armed_task ht hne 0)]
    simp [zero, fired, State.armed, List.set_comm _ _ hne]
  have hlast : last = fireTask first k := by
    dsimp only [last, first]
    rw [schedulerPass_iterate_ties hdead ht hne hu hmn, fireTask_of_task (armed_armed_task ht hne 0),
      if_pos ⟨hf, rfl, rfl⟩, hzero]
  have hplace : zero.sched.tasks[k.index]? = some (fired u 1 true) := by
    have hlt := (List.getElem?_eq_some_iff.1 hu).1
    exact List.getElem?_set_self (by simpa using hlt)
  obtain ⟨v, hv, hact⟩ := KeepsActions.closed.runAction {} t.action zero k.index _ hplace
  refine ⟨⟨v, hv, by rw [hlast, fireTask_of_task hv, hact]⟩, fun hi lo a b hta hua => ?_⟩
  have hfirst : first = (zero.setMem (wordOf hi lo) a).drawn := by
    dsimp only [first]
    rw [hta, runAction_poke_const (s := zero) hf]
  have hfired : first.sched.tasks[k.index]? = some (fired u 1 true) := by rw [hfirst]; exact hplace
  have hnone : first.fault = none := by rw [hfirst]; exact hf
  have hpoke : (fired u 1 true).action = .poke (.const hi) (.const lo) (.const b) := hua
  rw [hlast, fireTask_of_task hfired, if_pos ⟨hnone, rfl, rfl⟩, hpoke,
    runAction_poke_const (s := first.unschedule k) hnone]
  exact ((first.unschedule k).memByte_setMem _ _ b).trans (if_pos rfl)

end Sys2Proof.Machine
